-- ==== Sys2Proof/Word.lean ====
section
/-! DEFINITION. The plain number and table types of the OJ-1604: bytes, channel, host and line numbers, and tables of fixed length with one reader and one writer. -/

namespace Sys2Proof

/-- One byte of a frame (R181). -/
abbrev Byte := BitVec 8

/-- A physical or a logical channel number, CH0 to CH15 or L0 to L15 (00_scope.md, Conventions). -/
abbrev Chan := Fin 16

/-- A host number, H0 to H3: the port it uses (00_scope.md, Conventions). -/
abbrev HostId := Fin 4

/-- The number of an enable line EN0 to EN3 or of an external fault line XF0 to XF3. -/
abbrev LineId := Fin 4

/-- Entry `i` of a table. -/
def look {α : Type} {n : Nat} (t : Vector α n) (i : Fin n) : α := t[i.val]

/-- The table with entry `i` replaced by `x`. -/
def put {α : Type} {n : Nat} (t : Vector α n) (i : Fin n) (x : α) : Vector α n := t.set i.val x

/-- The table whose entry `i` is `f i`. -/
def tabulate {α : Type} {n : Nat} (f : Fin n → α) : Vector α n := Vector.ofFn f

/-- CH0 to CH15 (or L0 to L15) in ascending order. -/
def allChans : List Chan := [0, 1, 2, 3, 4, 5, 6, 7, 8, 9, 10, 11, 12, 13, 14, 15]

/-- H0 to H3 in ascending order. -/
def allHosts : List HostId := [0, 1, 2, 3]

/-- Line 0 to line 3 in ascending order. -/
def allLines : List LineId := [0, 1, 2, 3]

end Sys2Proof
end

