-- ==== Sys2Proof/Syntax.lean ====
section
/-! DEFINITION. The commands and events of the OJ-1604: one constructor of Instr per row of spec/opcode_table.json. -/

namespace Sys2Proof

/-- The two supply rails. -/
inductive Rail where
  | a
  | b
  deriving DecidableEq, Repr

/-- Where an outlet's voltage sample lies against the two fixed power-good thresholds (R59).
DESIGN CHOICE, safe: the manual gives no voltages, so a sample says on which side it falls (log 6). -/
inductive VoltageBand where
  /-- below the power-good fall threshold -/
  | belowFall
  /-- between the two thresholds -/
  | between
  /-- at or above the power-good rise threshold -/
  | atOrAboveRise
  deriving DecidableEq, Repr

/-- What the Sense Unit finds on its inputs at one 1 ms sample (R4, R59, R94, R96, R113). -/
structure Sample where
  /-- CHn_IS, units of 10 mA, 0 to 65535 (R94) -/
  current : Vector (BitVec 16) 16
  /-- CHn_VS against the power-good thresholds (R59) -/
  voltage : Vector VoltageBand 16
  /-- XF0 to XF3, true for high (R96) -/
  xf : Vector Bool 4
  /-- EN0 to EN3, true for high (R4) -/
  en : Vector Bool 4
  /-- RAILA_OK, true for high, that is good (R113) -/
  railA : Bool
  /-- RAILB_OK, true for high, that is good (R113) -/
  railB : Bool
  deriving DecidableEq, Repr

/-- One command or event of the part. A frame row carries the port it arrives on, its SEQ byte and
its operand bytes (LEN is their number, R181); `badCommand` and `starting` carry the CMD byte too. -/
inductive Instr where
  /-- POWER_ON_RESET (R199) -/
  | powerOnReset
  /-- RESET_N asserted (R199) -/
  | resetN
  /-- RESET_END: the reset ends and Profile Memory begins the load (R199) -/
  | resetEnd
  /-- LOAD_COMPLETION (R200) -/
  | loadCompletion
  /-- TRANSACTION_OPEN: a falling SEL_N (R180) -/
  | transactionOpen (h : HostId)
  /-- TRANSACTION_END: a rising SEL_N (R180, R182) -/
  | transactionEnd (h : HostId)
  /-- FRAME_ERROR: a frame that ends at its LEN byte (R183) -/
  | frameError (h : HostId) (seq cmd len : Byte)
  /-- STARTING: a frame that ends while Profile Memory loads (R185) -/
  | starting (h : HostId) (seq cmd : Byte) (ops : List Byte)
  /-- BAD_COMMAND: a frame whose CMD names no command (R184) -/
  | badCommand (h : HostId) (seq cmd : Byte) (ops : List Byte)
  /-- IDENTIFY (R190) -/
  | identify (h : HostId) (seq : Byte) (ops : List Byte)
  /-- OPEN (R150 to R152, R157) -/
  | openSession (h : HostId) (seq : Byte) (ops : List Byte)
  /-- CLOSE (R158) -/
  | closeSession (h : HostId) (seq : Byte) (ops : List Byte)
  /-- PING (R191) -/
  | ping (h : HostId) (seq : Byte) (ops : List Byte)
  /-- LOCK (R161) -/
  | lock (h : HostId) (seq : Byte) (ops : List Byte)
  /-- UNLOCK (R162) -/
  | unlock (h : HostId) (seq : Byte) (ops : List Byte)
  /-- CLAIM (R7, R8) -/
  | claim (h : HostId) (seq : Byte) (ops : List Byte)
  /-- RELEASE (R9) -/
  | release (h : HostId) (seq : Byte) (ops : List Byte)
  /-- CHANNEL_STATUS (R192) -/
  | channelStatus (h : HostId) (seq : Byte) (ops : List Byte)
  /-- RAIL_STATUS (R47) -/
  | railStatus (h : HostId) (seq : Byte) (ops : List Byte)
  /-- NEXT_NOTICE (R174) -/
  | nextNotice (h : HostId) (seq : Byte) (ops : List Byte)
  /-- CLEAR_FAULT (R110, R111) -/
  | clearFault (h : HostId) (seq : Byte) (ops : List Byte)
  /-- HOLD (R68) -/
  | hold (h : HostId) (seq : Byte) (ops : List Byte)
  /-- UNHOLD (R69) -/
  | unhold (h : HostId) (seq : Byte) (ops : List Byte)
  /-- RETIRE (R70, R140) -/
  | retire (h : HostId) (seq : Byte) (ops : List Byte)
  /-- RESTORE (R71, R141) -/
  | restore (h : HostId) (seq : Byte) (ops : List Byte)
  /-- SET_CHANNEL_POWER (R135) -/
  | setChannelPower (h : HostId) (seq : Byte) (ops : List Byte)
  /-- SET_CHANNEL_POLICY (R136 to R138) -/
  | setChannelPolicy (h : HostId) (seq : Byte) (ops : List Byte)
  /-- SET_CHANNEL_FAULT (R139) -/
  | setChannelFault (h : HostId) (seq : Byte) (ops : List Byte)
  /-- GET_CHANNEL_CONFIG (R142) -/
  | getChannelConfig (h : HostId) (seq : Byte) (ops : List Byte)
  /-- SET_VIEW_ENTRY (R145) -/
  | setViewEntry (h : HostId) (seq : Byte) (ops : List Byte)
  /-- GET_VIEW_ENTRY (R146) -/
  | getViewEntry (h : HostId) (seq : Byte) (ops : List Byte)
  /-- SET_RAIL (R143) -/
  | setRail (h : HostId) (seq : Byte) (ops : List Byte)
  /-- GET_RAIL (R143) -/
  | getRail (h : HostId) (seq : Byte) (ops : List Byte)
  /-- DROP_CLAIMS (R159) -/
  | dropClaims (h : HostId) (seq : Byte) (ops : List Byte)
  /-- COMMIT (R201) -/
  | commit (h : HostId) (seq : Byte) (ops : List Byte)
  /-- PROFILE_STATUS (R204) -/
  | profileStatus (h : HostId) (seq : Byte) (ops : List Byte)
  /-- COMMIT_COMPLETION, with success or with a verify failure (R202) -/
  | commitCompletion (verified : Bool)
  /-- LAPSE: lease expiry (R154) -/
  | lapse (h : HostId)
  /-- SENSE_SAMPLE: the 1 ms sample (R94) -/
  | senseSample (sample : Sample)
  /-- TRIP_EVENT (R95) -/
  | tripEvent (c : Chan)
  /-- ENABLE_EVENT (R4) -/
  | enableEvent (line : LineId)
  /-- DETACH_EVENT (R73, R74) -/
  | detachEvent (c : Chan)
  /-- BLANKING_EXPIRY (R58) -/
  | blankingExpiry (c : Chan)
  /-- SOFT_START_EXPIRY (R99) -/
  | softStartExpiry (c : Chan)
  /-- STABLE_EXPIRY (R63) -/
  | stableExpiry (c : Chan)
  /-- DISCHARGE_EXPIRY (R67) -/
  | dischargeExpiry (c : Chan)
  /-- BACKOFF_EXPIRY (R106) -/
  | backoffExpiry (c : Chan)
  /-- RESTORE_EXPIRY (R114) -/
  | restoreExpiry (r : Rail)
  /-- LOSS_EXPIRY (R119) -/
  | lossExpiry (r : Rail)
  /-- DEAD_TIME_EXPIRY (R126) -/
  | deadTimeExpiry (c : Chan)
  deriving DecidableEq, Repr

end Sys2Proof
end

