-- ==== Sys2Proof/Config.lean ====
section
/-! DEFINITION. The configuration the installer decides (channel, rail and view records with their defaults), and the free values: what the manual leaves to the implementation or leaves open. -/

namespace Sys2Proof

/-- Admin state of a channel record (R131). -/
inductive Admin where
  | enabled
  | held
  | retired
  deriving DecidableEq, Repr

/-- Policy of a channel record (R3 to R5, R131). -/
inductive Policy where
  | any
  | all
  | line
  | pinned
  deriving DecidableEq, Repr

/-- Feed of a channel record: the rails it may draw from, the preferred one first (R33, R131). -/
inductive Feed where
  | aOnly
  | bOnly
  | aThenB
  | bThenA
  deriving DecidableEq, Repr

/-- Fault source of a channel record (R92, R131). -/
inductive FaultSource where
  | noSource
  | sense
  | xf (k : LineId)
  | senseXf (k : LineId)
  | forced
  deriving DecidableEq, Repr

/-- Detach action of a channel record (R73, R74, R131). -/
inductive DetachAction where
  | notify
  | release
  deriving DecidableEq, Repr

/-- One channel configuration record: the twenty fields of R131 in its order. -/
structure ChannelConfig where
  admin : Admin
  policy : Policy
  /-- the claimant set, bit n for Hn (R6, R136) -/
  claimants : BitVec 4
  enableLine : LineId
  /-- 0 to 7 -/
  floor : Nat
  parent : Option Chan
  /-- 1 to 200 AU -/
  classAU : Nat
  /-- class to 250 AU -/
  tripThreshold : Nat
  /-- 0 to 15 ms -/
  tripFilter : Nat
  feed : Feed
  /-- 1 to 255 ms -/
  softStart : Nat
  /-- 0 to 255 ms, not above the soft-start time -/
  blanking : Nat
  /-- 0 to 255 ms -/
  dischargeTime : Nat
  /-- 1 to 50 ms -/
  deadTime : Nat
  faultSource : FaultSource
  /-- 0 to 7 -/
  retryLimit : Nat
  /-- 1 to 255, × 10 ms -/
  backoffBase : Nat
  /-- 0 to 255, × 10 mA; 0 turns detach off -/
  detachThreshold : Nat
  /-- 1 to 255, × 10 ms -/
  detachTime : Nat
  detachAction : DetachAction
  deriving DecidableEq, Repr

/-- The defaults of R131. -/
def ChannelConfig.default : ChannelConfig where
  admin := .enabled
  policy := .any
  claimants := 0b1111#4
  enableLine := 0
  floor := 0
  parent := none
  classAU := 10
  tripThreshold := 20
  tripFilter := 2
  feed := .aOnly
  softStart := 20
  blanking := 5
  dischargeTime := 50
  deadTime := 5
  faultSource := .sense
  retryLimit := 3
  backoffBase := 10
  detachThreshold := 0
  detachTime := 50
  detachAction := .notify

/-- One rail configuration record (R143). -/
structure RailConfig where
  /-- 0 to 1000 AU -/
  limit : Nat
  /-- 0 to 15 ms -/
  lossQual : Nat
  /-- 1 to 255, × 10 ms -/
  restoreQual : Nat
  deriving DecidableEq, Repr

/-- The defaults of R143. -/
def RailConfig.default : RailConfig := ⟨0, 2, 10⟩

/-- One entry of a view: a physical channel or UNMAPPED, and the watch flag (R144). -/
structure ViewEntry where
  physical : Option Chan
  watch : Bool
  deriving DecidableEq, Repr

/-- A pair of one thing per rail. -/
structure PerRail (α : Type) where
  railA : α
  railB : α
  deriving DecidableEq, Repr

/-- The thing of rail `r`. -/
def PerRail.of {α : Type} (p : PerRail α) : Rail → α
  | .a => p.railA
  | .b => p.railB

/-- The pair with the thing of rail `r` replaced. -/
def PerRail.setOf {α : Type} (p : PerRail α) (r : Rail) (x : α) : PerRail α :=
  match r with
  | .a => { p with railA := x }
  | .b => { p with railB := x }

/-- The rail that is not `r`. -/
def Rail.other : Rail → Rail
  | .a => .b
  | .b => .a

/-- The whole live configuration, which is also the image a profile slot holds (R147, R198): sixteen
channel records, two rail records, four views of sixteen entries. -/
structure Configuration where
  channels : Vector ChannelConfig 16
  rails : PerRail RailConfig
  views : Vector (Vector ViewEntry 16) 4
  deriving DecidableEq, Repr

/-- The default view: Ln mapped to CHn, watch off (R144). -/
def defaultView : Vector ViewEntry 16 := tabulate fun l => ⟨some l, false⟩

/-- The defaults of R131, R143 and R144, loaded when no slot is valid (R147). -/
def Configuration.default : Configuration where
  channels := Vector.replicate 16 ChannelConfig.default
  rails := ⟨RailConfig.default, RailConfig.default⟩
  views := Vector.replicate 4 defaultView

/-- FREE VALUE (DESIGN CHOICE, safe, log 17): the silicon revision IDENTIFY reports is "a number from
1" (R190); this is the revision less one. -/
opaque Config.revisionLessOne : Fin 255

/-- FREE VALUE (DESIGN CHOICE, safe, log 16): the check Profile Memory computes over a generation and
an image (R198). The manual does not give the function. -/
opaque Config.profileCheck (generation : BitVec 32) (image : Configuration) : BitVec 32

/-- FREE VALUE (DESIGN CHOICE, safe, log 18): whether a commit write that no COMMIT_COMPLETION row
ended in time verifies (R202), by the number of the draw. -/
opaque Config.writeVerifies (draw : Nat) : Bool

/-- FREE VALUE (DESIGN CHOICE, safe, log 7): which of several things the manual leaves unordered is
taken first, by the number of the draw (R16, R37, R96). -/
opaque Config.choice (draw : Nat) : Nat

end Sys2Proof
end

