-- ==== Sys2Proof/Machine/State.lean ====
section
/-! DEFINITION. The state of the OJ-1604 as plain data, block by block, and the state right after power-on reset. -/

namespace Sys2Proof.Machine

/-! ### Claim Arbiter (01_claims_and_demand.md) -/

/-- State of a claim record (R1, R2). -/
inductive ClaimState where
  | active
  | orphaned
  deriving DecidableEq, Repr

/-- A claim record; its channel and host are its slot (R1). -/
structure Claim where
  state : ClaimState
  /-- 0 to 7 -/
  priority : Nat
  tag : BitVec 16
  /-- device time of the CLAIM that made or last updated it -/
  time : BitVec 32
  deriving DecidableEq, Repr

/-- The five values the Claim Arbiter keeps per channel (R10 to R14, R91). -/
structure Demand where
  own : Bool
  /-- 0 while own demand is absent (R10) -/
  ownPriority : Nat
  effective : Bool
  /-- the floor while effective demand is absent (R14) -/
  priority : Nat
  contributing : Bool
  deriving DecidableEq, Repr

/-! ### Budget Arbiter (02_admission_and_the_rail_budget.md) -/

/-- An admission queue entry (R28). -/
structure QueueEntry where
  chan : Chan
  /-- effective priority, 0 to 8 -/
  priority : Nat
  /-- admission number, 64 bits (log 10) -/
  number : Nat
  deriving DecidableEq, Repr

/-- One charge of a rail account (R25). -/
structure Charge where
  chan : Chan
  classAU : Nat
  /-- grant number, 64 bits (log 10) -/
  grantNumber : Nat
  deriving DecidableEq, Repr

/-- A rail account: its limit and its charges by grant number ascending (R25). Allocated sum and free
budget are computed from them. -/
structure Account where
  limit : Nat
  charges : List Charge
  deriving DecidableEq, Repr

/-! ### Channel Controllers (03_channel_lifecycle.md) -/

/-- The nine channel states (R49). `isOn` is the manual's ON. -/
inductive ChannelState where
  | retired
  | off
  | queued
  | softstart
  | isOn
  | switchover
  | stopping
  | retryWait
  | latched
  deriving DecidableEq, Repr

/-- Sub-state of SOFTSTART (R49, R58). -/
inductive SubState where
  | noSub
  | blanking
  | ramp
  deriving DecidableEq, Repr

/-- Fault causes (R49, R92). -/
inductive FaultCause where
  | overcurrent
  | external
  | pgLost
  | softstartTimeout
  | forced
  deriving DecidableEq, Repr

/-- Causes of a stop (R65). -/
inductive StopCause where
  | released
  | shed
  | held
  | railLost
  | parentLost
  deriving DecidableEq, Repr

/-- The state of one Channel Controller (R49). A timer is stopped (`none`) or holds the milliseconds
left to its expiry (R51, log 3). -/
structure Controller where
  state : ChannelState
  sub : SubState
  chargedRail : Option Rail
  grantNumber : Nat
  /-- 0 to 8 -/
  retryCount : Nat
  lastFault : Option FaultCause
  /-- the demand item: effective demand as last handed by the Claim Arbiter -/
  demand : Bool
  softStart : Option Nat
  blanking : Option Nat
  stable : Option Nat
  discharge : Option Nat
  backoff : Option Nat
  deadTime : Option Nat
  deriving DecidableEq, Repr

/-! ### Sense Unit -/

/-- What the Sense Unit keeps per channel (R59, R72, R94). -/
structure ChannelSense where
  /-- the most recent current sample, units of 10 mA -/
  measured : BitVec 16
  tripRun : Nat
  /-- a trip event passed and not yet taken: the model's own (log 4) -/
  tripPassed : Bool
  powerGood : Bool
  detachRun : Nat
  detachArmed : Bool
  /-- a detach event passed and not yet taken: the model's own (log 4) -/
  detachPassed : Bool
  deriving DecidableEq, Repr

/-- An enable line: its qualified level and the run of samples toward the other level (R4). -/
structure EnableLine where
  qualified : Bool
  run : Nat
  deriving DecidableEq, Repr

/-- Rail states (R113). -/
inductive RailState where
  | down
  | rising
  | up
  | falling
  deriving DecidableEq, Repr

/-- A rail monitor (R113). -/
structure RailMonitor where
  /-- kept input level, true for good -/
  good : Bool
  state : RailState
  restoreTimer : Option Nat
  lossTimer : Option Nat
  deriving DecidableEq, Repr

/-! ### Notice Unit (09_notices_and_attention.md) -/

/-- Cause of a claim drop that is reported (R18). -/
inductive DropCause where
  | config
  | detached
  deriving DecidableEq, Repr

/-- Kind, cause and detail of a notice record together, as R167 pairs them. -/
inductive Report where
  | granted (rail : Option Rail)
  | stopped (cause : StopCause) (rail : Option Rail)
  | faulted (cause : FaultCause) (count : Nat) (latched : Bool)
  | switched (lost new : Rail)
  | detached (action : DetachAction)
  | claimDropped (cause : DropCause)
  | railUp (rail : Rail)
  | railDown (rail : Rail)
  | commitDone (generation : BitVec 32)
  | commitFailed (generation : BitVec 32)
  deriving DecidableEq, Repr

/-- A notice record (R166). -/
structure Notice where
  report : Report
  logical : Option Chan
  newState : Option ChannelState
  tag : BitVec 16
  time : BitVec 32
  lostAfter : Bool
  deriving DecidableEq, Repr

/-! ### Host Ports (08_host_sessions_and_the_configuration_lock.md, 10_host_port_protocol.md) -/

/-- Session states (R148). -/
inductive Session where
  | closed
  | opened
  | lapsed
  deriving DecidableEq, Repr

/-- Orphan modes (R148). -/
inductive OrphanMode where
  | keep
  | drop
  deriving DecidableEq, Repr

/-- Receiver states (R180). -/
inductive Receiver where
  | deselected
  | request
  | response
  deriving DecidableEq, Repr

/-- The entry of a replay store (R186). LEN is the number of operands. -/
structure ReplayEntry where
  seq : Byte
  cmd : Byte
  ops : List Byte
  response : List Byte
  deriving DecidableEq, Repr

/-- A Host Port: its select pin, receiver, response frame, session record and replay store
(R148, R180, R186). -/
structure Port where
  /-- SEL_N is low -/
  selected : Bool
  receiver : Receiver
  /-- the response frame clocked out in RESPONSE -/
  response : List Byte
  session : Session
  /-- 0 to 255, × 100 ms -/
  leasePeriod : Nat
  leaseTimer : Option Nat
  orphanMode : OrphanMode
  attention : Bool
  replay : Option ReplayEntry
  deriving DecidableEq, Repr

/-! ### Profile Memory (11_profile_store_and_start_up.md) -/

/-- The two profile slots (R198). -/
inductive SlotId where
  | slot0
  | slot1
  deriving DecidableEq, Repr

/-- A non-volatile slot (R198). An erased slot holds no image (log 16). -/
structure Slot where
  generation : BitVec 32
  image : Option Configuration
  check : BitVec 32
  deriving DecidableEq, Repr

/-- Reset causes (R151). -/
inductive ResetCause where
  | powerOn
  | pin
  deriving DecidableEq, Repr

/-- How far the load has come (R199): the reset has not ended, or the slots are read and a slot, or
the defaults (`none`), is chosen. -/
inductive LoadPhase where
  | inReset
  | chosen (slot : Option SlotId)
  deriving DecidableEq, Repr

/-- The commit in progress (R198), with the milliseconds since its acceptance (R202). -/
structure CommitJob where
  target : SlotId
  generation : BitVec 32
  snapshot : Configuration
  requester : HostId
  age : Nat
  deriving DecidableEq, Repr

/-- Store state (R198). WRITING holds the commit in progress, which is present only then. -/
inductive StoreState where
  | loading (phase : LoadPhase)
  | idle
  | writing (job : CommitJob)
  deriving DecidableEq, Repr

/-- Profile Memory (R198). -/
structure ProfileMemory where
  slot0 : Slot
  slot1 : Slot
  store : StoreState
  valid0 : Bool
  valid1 : Bool
  currentGeneration : BitVec 32
  currentSlot : Option SlotId
  loadedGeneration : BitVec 32
  resetCause : ResetCause
  deriving DecidableEq, Repr

/-! ### The whole part -/

/-- The state of the OJ-1604: every block's state, the model's draw counter, and the commands that are
waiting. -/
structure State where
  pm : ProfileMemory
  deviceTime : BitVec 32
  config : Configuration
  lock : Option HostId
  ports : Vector Port 4
  claims : Vector (Vector (Option Claim) 4) 16
  demand : Vector Demand 16
  /-- the admission queue, in the order of R29 -/
  queue : List QueueEntry
  admissionCounter : Nat
  grantCounter : Nat
  accounts : PerRail Account
  channels : Vector Controller 16
  sense : Vector ChannelSense 16
  /-- kept levels of XF0 to XF3, true for asserted (R96) -/
  xf : Vector Bool 4
  enables : Vector EnableLine 4
  rails : PerRail RailMonitor
  notices : Vector (List Notice) 4
  /-- the model's own: how many free choices have been drawn (log 7) -/
  draws : Nat
  /-- the commands that are waiting, first in first out -/
  pending : List Instr
  deriving DecidableEq, Repr

/-- Faults: none. No event stops the part; a channel fault is an effect on the state (R100, log 20). -/
inductive Fault
  deriving DecidableEq, Repr

/-- Refusals: only that of a command not modelled yet. Raised by exec's arm alone; safe. -/
inductive Refusal where
  | notModelled (mnemonic : String)
  deriving DecidableEq, Repr

/-! ### Readers and writers, one home for each piece of state -/

def State.port (s : State) (h : HostId) : Port := look s.ports h
def State.setPort (s : State) (h : HostId) (p : Port) : State := { s with ports := put s.ports h p }

def State.ctl (s : State) (c : Chan) : Controller := look s.channels c
def State.setCtl (s : State) (c : Chan) (k : Controller) : State :=
  { s with channels := put s.channels c k }

def State.sen (s : State) (c : Chan) : ChannelSense := look s.sense c
def State.setSen (s : State) (c : Chan) (x : ChannelSense) : State :=
  { s with sense := put s.sense c x }

def State.cfg (s : State) (c : Chan) : ChannelConfig := look s.config.channels c
def State.setCfg (s : State) (c : Chan) (f : ChannelConfig) : State :=
  { s with config := { s.config with channels := put s.config.channels c f } }

def State.claimOf (s : State) (c : Chan) (h : HostId) : Option Claim := look (look s.claims c) h
def State.setClaim (s : State) (c : Chan) (h : HostId) (x : Option Claim) : State :=
  { s with claims := put s.claims c (put (look s.claims c) h x) }

def State.dem (s : State) (c : Chan) : Demand := look s.demand c

def State.account (s : State) (r : Rail) : Account := s.accounts.of r
def State.setAccount (s : State) (r : Rail) (x : Account) : State :=
  { s with accounts := s.accounts.setOf r x }

def State.rail (s : State) (r : Rail) : RailMonitor := s.rails.of r
def State.setRail (s : State) (r : Rail) (x : RailMonitor) : State :=
  { s with rails := s.rails.setOf r x }

def State.line (s : State) (k : LineId) : EnableLine := look s.enables k
def State.setLine (s : State) (k : LineId) (x : EnableLine) : State :=
  { s with enables := put s.enables k x }

def State.noticesOf (s : State) (h : HostId) : List Notice := look s.notices h
def State.setNotices (s : State) (h : HostId) (q : List Notice) : State :=
  { s with notices := put s.notices h q }

def State.viewEntry (s : State) (h : HostId) (l : Chan) : ViewEntry := look (look s.config.views h) l

def ProfileMemory.slot (m : ProfileMemory) : SlotId → Slot
  | .slot0 => m.slot0
  | .slot1 => m.slot1
def ProfileMemory.setSlot (m : ProfileMemory) (i : SlotId) (x : Slot) : ProfileMemory :=
  match i with
  | .slot0 => { m with slot0 := x }
  | .slot1 => { m with slot1 := x }
def ProfileMemory.valid (m : ProfileMemory) : SlotId → Bool
  | .slot0 => m.valid0
  | .slot1 => m.valid1
def ProfileMemory.setValid (m : ProfileMemory) (i : SlotId) (b : Bool) : ProfileMemory :=
  match i with
  | .slot0 => { m with valid0 := b }
  | .slot1 => { m with valid1 := b }

/-! ### The state after reset -/

/-- A controller before load completion (R76). STOPPING stands for the channel state that R76 does not
name. DESIGN CHOICE, unsafe (log 12). -/
def Controller.atReset : Controller where
  state := .stopping
  sub := .noSub
  chargedRail := none
  grantNumber := 0
  retryCount := 0
  lastFault := none
  demand := false
  softStart := none
  blanking := none
  stable := none
  discharge := none
  backoff := none
  deadTime := none

/-- The Sense Unit's channel items after reset (R59, R72, R112). The measured current reads 0.
DESIGN CHOICE, unsafe (log 23). -/
def ChannelSense.atReset : ChannelSense := ⟨0, 0, false, false, 0, false, false⟩

/-- A port after reset, its SEL_N pin at the given level (R165, R180). -/
def Port.atReset (selected : Bool) : Port where
  selected := selected
  receiver := .deselected
  response := []
  session := .closed
  leasePeriod := 0
  leaseTimer := none
  orphanMode := .keep
  attention := false
  replay := none

/-- The generation of an erased slot (R198). -/
def emptyGeneration : BitVec 32 := 0xFFFFFFFF#32

/-- An erased slot (R198). -/
def Slot.erased : Slot := ⟨emptyGeneration, none, 0⟩

/-- Profile Memory put in reset (R199): LOADING with the load not begun, the slots as they are. What the
volatile items read until the load is DESIGN CHOICE, unsafe (log 12). -/
def ProfileMemory.inReset (slot0 slot1 : Slot) (cause : ResetCause) : ProfileMemory where
  slot0 := slot0
  slot1 := slot1
  store := .loading .inReset
  valid0 := false
  valid1 := false
  currentGeneration := 0
  currentSlot := none
  loadedGeneration := 0
  resetCause := cause

/-- A channel without demand whose floor is the default 0 (R24). -/
def Demand.absent : Demand := ⟨false, 0, false, 0, false⟩

/-- The part put in power-on reset for the first time (R24, R48, R76, R112, R130, R147, R165, R179,
R180, R199): both slots erased (DESIGN CHOICE, unsafe, log 13), no port selected (DESIGN CHOICE,
unsafe, log 23), the configuration items at their defaults and device time 0 until the load (DESIGN CHOICE,
unsafe, log 12; R200 gives device time only from load completion on). -/
def State.reset : State where
  pm := ProfileMemory.inReset Slot.erased Slot.erased .powerOn
  deviceTime := 0
  config := Configuration.default
  lock := none
  ports := Vector.replicate 4 (Port.atReset false)
  claims := Vector.replicate 16 (Vector.replicate 4 none)
  demand := Vector.replicate 16 Demand.absent
  queue := []
  admissionCounter := 0
  grantCounter := 0
  accounts := ⟨⟨0, []⟩, ⟨0, []⟩⟩
  channels := Vector.replicate 16 Controller.atReset
  sense := Vector.replicate 16 ChannelSense.atReset
  xf := Vector.replicate 4 false
  enables := Vector.replicate 4 ⟨false, 0⟩
  rails := ⟨⟨false, .down, none, none⟩, ⟨false, .down, none, none⟩⟩
  notices := Vector.replicate 4 []
  draws := 0
  pending := []

end Sys2Proof.Machine
end

