-- ==== Sys2Proof/Machine/Ops.lean ====
section
/-! DEFINITION. The named operations the events are made of: free choices, notices, the admission queue and the accounts, and the Channel Controllers' transitions up to stopping with its cascade. -/

namespace Sys2Proof.Machine

/-! ### Free choices (log 7) -/

/-- One of several things the manual leaves unordered. With fewer than two there is no choice and no
draw. -/
def pick {α : Type} (l : List α) (s : State) : Option (α × State) :=
  match l with
  | [] => none
  | [x] => some (x, s)
  | x :: y :: rest =>
    let all := x :: y :: rest
    some ((all[Config.choice s.draws % all.length]?).getD x, { s with draws := s.draws + 1 })

/-- Take the members of a list one after another, each time one of those `ready` lets through, in an
order that is a free choice; `n` bounds the number taken. -/
def inFreeOrder {α : Type} [DecidableEq α] (ready : List α → List α) (f : α → State → State) :
    Nat → List α → State → State
  | 0, _, s => s
  | n + 1, l, s =>
    match pick (ready l) s with
    | none => s
    | some (x, t) => inFreeOrder ready f n (l.erase x) (f x t)

/-! ### Profile Memory's state as the ports see it -/

/-- Profile Memory loads: from a reset until load completion (R185, R199). -/
def State.isLoading (s : State) : Bool :=
  match s.pm.store with
  | .loading _ => true
  | .idle => false
  | .writing _ => false

/-! ### Channel states -/

/-- The channel is charged to a rail (R26). -/
def ChannelState.charged : ChannelState → Bool
  | .softstart | .isOn | .switchover => true
  | .retired | .off | .queued | .stopping | .retryWait | .latched => false

/-- The switch of the charged rail is closed (R50). -/
def ChannelState.closed : ChannelState → Bool
  | .softstart | .isOn => true
  | .retired | .off | .queued | .switchover | .stopping | .retryWait | .latched => false

/-- An active child's states (R40). -/
def ChannelState.active : ChannelState → Bool
  | .softstart | .isOn | .switchover | .stopping => true
  | .retired | .off | .queued | .retryWait | .latched => false

/-- The states in which the SET_CHANNEL family and RETIRE are accepted (R134). -/
def ChannelState.configurable : ChannelState → Bool
  | .off | .latched | .retired => true
  | .queued | .softstart | .isOn | .switchover | .stopping | .retryWait => false

/-- The channels whose record names `c` as parent, ascending (R77). -/
def State.children (s : State) (c : Chan) : List Chan :=
  allChans.filter fun k => (s.cfg k).parent = some c

/-! ### Views and notices (R144, R166 to R173) -/

/-- The logical number under which host `h` sees channel `c` (R144, R170). -/
def State.logicalOf (s : State) (h : HostId) (c : Chan) : Option Chan :=
  allChans.find? fun l => (s.viewEntry h l).physical = some c

/-- The lost-after flag of the newest record is set (R173). -/
def markNewest : List Notice → List Notice
  | [] => []
  | [n] => [{ n with lostAfter := true }]
  | n :: m :: rest => n :: markNewest (m :: rest)

/-- The capacity of a notice queue (R172). -/
def noticeCapacity : Nat := 32

/-- A record given to a queue: stored at the tail, or lost with the newest record flagged (R172, R173). -/
def appendNotice (q : List Notice) (n : Notice) : List Notice :=
  if q.length < noticeCapacity then q ++ [n] else markNewest q

/-- Host `h` holds an ACTIVE claim on `c`. -/
def State.claimsActively (s : State) (h : HostId) (c : Chan) : Bool :=
  match s.claimOf c h with
  | some x => x.state = .active
  | none => false

/-- Host `h` receives a channel record for `c` (R168). -/
def State.receives (s : State) (h : HostId) (c : Chan) : Bool :=
  match s.logicalOf h c with
  | some l => (s.port h).session = .opened && (s.claimsActively h c || (s.viewEntry h l).watch)
  | none => false

/-- The tag a record for `c` carries to host `h` (R170). -/
def State.tagOf (s : State) (h : HostId) (c : Chan) : BitVec 16 :=
  match s.claimOf c h with
  | some x => x.tag
  | none => 0

/-- Give a record to every host that `hosts` names, each its own (R166). -/
def State.deliver (s : State) (hosts : HostId → Bool) (record : HostId → Notice) : State :=
  { s with
    notices := tabulate fun h =>
      if hosts h then appendNotice (s.noticesOf h) (record h) else s.noticesOf h }

/-- A GRANTED, STOPPED, FAULTED, SWITCHED or DETACHED record for channel `c`, carrying the state its
controller then stands in (R53, R166, R168, R170). -/
def State.reportChannel (s : State) (c : Chan) (x : Report) : State :=
  s.deliver (fun h => s.receives h c) fun h =>
    { report := x
      logical := s.logicalOf h c
      newState := some (s.ctl c).state
      tag := s.tagOf h c
      time := s.deviceTime
      lostAfter := false }

/-- A RAIL record, to every OPEN host (R116, R169). -/
def State.reportRail (s : State) (x : Report) : State :=
  s.deliver (fun h => (s.port h).session = .opened) fun _ =>
    { report := x, logical := none, newState := none, tag := 0, time := s.deviceTime
      lostAfter := false }

/-- A COMMIT_DONE or COMMIT_FAILED record, to the requester if it is OPEN (R169). -/
def State.reportCommit (s : State) (requester : HostId) (x : Report) : State :=
  s.deliver (fun h => h = requester && (s.port h).session = .opened) fun _ =>
    { report := x, logical := none, newState := none, tag := 0, time := s.deviceTime
      lostAfter := false }

/-- A CLAIM_DROPPED record, to the host whose claim was removed if it is OPEN (R18, R169). -/
def State.reportDrop (s : State) (c : Chan) (holder : HostId) (tag : BitVec 16) (cause : DropCause) :
    State :=
  s.deliver (fun h => h = holder && (s.port h).session = .opened) fun h =>
    { report := .claimDropped cause
      logical := s.logicalOf h c
      newState := some (s.ctl c).state
      tag := tag
      time := s.deviceTime
      lostAfter := false }

/-! ### The admission queue and the accounts (R25 to R32) -/

/-- Insertion into a list kept in an order: before the first member that `x` precedes. -/
def insertBy {α : Type} (precedes : α → α → Bool) (x : α) : List α → List α
  | [] => [x]
  | y :: ys => if precedes x y then x :: y :: ys else y :: insertBy precedes x ys

/-- A list put in an order. -/
def sortBy {α : Type} (precedes : α → α → Bool) : List α → List α
  | [] => []
  | x :: xs => insertBy precedes x (sortBy precedes xs)

/-- The order of the admission queue: effective priority descending, admission number ascending (R29). -/
def QueueEntry.precedes (x y : QueueEntry) : Bool :=
  y.priority < x.priority || (x.priority = y.priority && x.number < y.number)

/-- The queue without the entry of `c` (R31). -/
def State.unqueue (s : State) (c : Chan) : State :=
  { s with queue := s.queue.filter fun e => e.chan ≠ c }

/-- Insert an entry for `c` at its effective priority in force, with the next admission number (R30). -/
def State.enqueue (s : State) (c : Chan) : State :=
  { s with
    queue := insertBy QueueEntry.precedes ⟨c, (s.dem c).priority, s.admissionCounter⟩ s.queue
    admissionCounter := s.admissionCounter + 1 }

/-- A new effective priority for `c`: its entry, if it has one, moves and keeps its number (R32). -/
def State.reprioritize (s : State) (c : Chan) : State :=
  match s.queue.find? fun e => e.chan = c with
  | some e =>
    { s with
      queue := insertBy QueueEntry.precedes { e with priority := (s.dem c).priority }
        (s.queue.filter fun e => e.chan ≠ c) }
  | none => s

/-- The total of the classes of a charge list. -/
def chargeSum (l : List Charge) : Nat := (l.map Charge.classAU).sum

/-- The allocated sum of an account (R25). -/
def Account.allocated (x : Account) : Nat := chargeSum x.charges

/-- The free budget of an account (R25). -/
def Account.free (x : Account) : Nat := x.limit - x.allocated

def Account.without (x : Account) (c : Chan) : Account :=
  { x with charges := x.charges.filter fun y => y.chan ≠ c }

/-- The charge of `c` is removed from the account that carries it (R26). -/
def State.uncharge (s : State) (c : Chan) : State :=
  { s with accounts := ⟨s.accounts.railA.without c, s.accounts.railB.without c⟩ }

/-- The order of a charge list: grant number ascending (R25). -/
def Charge.precedes (x y : Charge) : Bool := x.grantNumber < y.grantNumber

/-- A charge is placed in rail `r`'s list at its position by grant number (R38, R121). -/
def State.charge (s : State) (r : Rail) (x : Charge) : State :=
  s.setAccount r { s.account r with charges := insertBy Charge.precedes x (s.account r).charges }

/-! ### Timers (R51) -/

/-- A timer started with a duration; a duration of 0 expires at its start. -/
def startTimer (d : Nat) : Option Nat := if d = 0 then none else some d

/-! ### What opening the rail switches does in the Sense Unit (R59, R72, R94) -/

/-- Power-good cleared without a loss, trip run 0, detach run disarmed; an event already passed finds
its controller gone and is dropped with them (R73, R95). -/
def State.quiet (s : State) (c : Chan) : State :=
  s.setSen c { s.sen c with
    tripRun := 0, tripPassed := false, powerGood := false, detachArmed := false
    detachPassed := false }

/-! ### OFF and QUEUED (R54, R55) -/

/-- Entry to QUEUED, the insertion with it (R30, R55). -/
def State.enterQueued (s : State) (c : Chan) : State :=
  (s.setCtl c { s.ctl c with state := .queued }).enqueue c

/-- The demand item is present and the admin state ENABLED (R54, R55). -/
def State.wanted (s : State) (c : Chan) : Bool := (s.ctl c).demand && (s.cfg c).admin = .enabled

/-- Entry to OFF: retry count 0, charged rail NONE, and on to QUEUED if the channel is wanted (R54). -/
def State.enterOff (s : State) (c : Chan) : State :=
  let t := s.setCtl c { s.ctl c with state := .off, retryCount := 0, chargedRail := none }
  if t.wanted c then t.enterQueued c else t

/-- The end of a discharge in STOPPING, or of a retry wait: QUEUED if wanted, otherwise OFF (R67, R106). -/
def State.endWait (s : State) (c : Chan) : State :=
  if s.wanted c then s.enterQueued c else s.enterOff c

/-! ### Stopping and the cascade (R65, R84) -/

/-- Steps 1 to 4 of R65: switches open and charge removed, timers stopped, discharge started (and taken
at once when its time is 0, R67), STOPPED given. -/
def State.stopOne (s : State) (cause : StopCause) (c : Chan) : State :=
  let k := s.ctl c
  let t := ((s.uncharge c).quiet c).setCtl c { k with
    state := .stopping, sub := .noSub, chargedRail := none
    softStart := none, blanking := none, stable := none, deadTime := none
    discharge := startTimer (s.cfg c).dischargeTime }
  let u := if (s.cfg c).dischargeTime = 0 then t.endWait c else t
  u.reportChannel c (.stopped cause k.chargedRail)

/-- No forest on sixteen channels is deeper than this. -/
def treeDepth : Nat := 16

/-- Stop a channel and, if it was ON, its running children with PARENT_LOST, depth first and by channel
number ascending (R65, R84). The number bounds the depth. -/
def stopTree : Nat → StopCause → Chan → State → State
  | 0, cause, c, s => s.stopOne cause c
  | n + 1, cause, c, s =>
    let t := s.stopOne cause c
    if (s.ctl c).state = .isOn then
      (s.children c).foldl
        (fun u k => if (u.ctl k).state.charged then stopTree n .parentLost k u else u) t
    else t

/-- Entry to STOPPING from SOFTSTART, ON or SWITCHOVER, cascade included (R65). -/
def State.stop (s : State) (cause : StopCause) (c : Chan) : State := stopTree treeDepth cause c s

/-- The cascade of a channel that has left ON by a fault or a move (R84, R86, R100). -/
def State.cascade (s : State) (c : Chan) : State :=
  (s.children c).foldl
    (fun u k => if (u.ctl k).state.charged then u.stop .parentLost k else u) s

end Sys2Proof.Machine
end

