-- ==== Sys2Proof/Machine/Arbiter.lean ====
section
/-! DEFINITION. The Claim Arbiter: own demand, effective demand and priority, the recomputation and what it hands on, and claim drops (R3 to R22). -/

namespace Sys2Proof.Machine

/-! ### Demand and priority (R3 to R14) -/

/-- Host `h` is in the claimant set (R6, R136). -/
def ChannelConfig.admits (f : ChannelConfig) (h : HostId) : Bool := f.claimants.getLsbD h.val

/-- Own demand (R3, R4, R5, R10). -/
def State.ownDemand (s : State) (c : Chan) : Bool :=
  if (s.cfg c).admin = .retired then false
  else
    match (s.cfg c).policy with
    | .any => allHosts.any fun h => (s.claimOf c h).isSome
    | .all => allHosts.all fun h => !ChannelConfig.admits (s.cfg c) h || (s.claimOf c h).isSome
    | .line => (s.line (s.cfg c).enableLine).qualified
    | .pinned => true

/-- The largest number of a list, 0 for none. -/
def largest (l : List Nat) : Nat := l.foldl max 0

/-- The priority of a claim slot, 0 for an empty one. -/
def claimPriority : Option Claim → Nat
  | some x => x.priority
  | none => 0

/-- The priority of the standing demand of a PINNED channel (R5). -/
def pinnedPriority : Nat := 8

/-- Own priority, 0 while own demand is absent (R3, R4, R5, R10). -/
def State.ownPriority (s : State) (c : Chan) : Nat :=
  if s.ownDemand c then
    match (s.cfg c).policy with
    | .any | .all => largest (allHosts.map fun h => claimPriority (s.claimOf c h))
    | .line => (s.cfg c).floor
    | .pinned => pinnedPriority
  else 0

/-- The conditions of R11 other than effective demand and the parent: admin ENABLED, not LATCHED. -/
def State.mayContribute (s : State) (c : Chan) : Bool :=
  (s.cfg c).admin = .enabled && (s.ctl c).state ≠ .latched

/-- Effective demand, from the leaves up (R11, R12); `n` bounds the levels looked at. -/
def State.effectiveDemand (s : State) : Nat → Chan → Bool
  | 0, c => s.ownDemand c
  | n + 1, c =>
    s.ownDemand c || (s.children c).any fun k => s.mayContribute k && s.effectiveDemand n k

/-- Effective priority, from the leaves up (R14); `n` bounds the levels looked at. -/
def State.effectivePriority (s : State) : Nat → Chan → Nat
  | 0, c => max (s.cfg c).floor (s.ownPriority c)
  | n + 1, c =>
    if s.effectiveDemand (n + 1) c then
      largest ((s.cfg c).floor :: s.ownPriority c ::
        ((s.children c).filter fun k => s.mayContribute k && s.effectiveDemand n k).map
          fun k => s.effectivePriority n k)
    else (s.cfg c).floor

/-- The five values of one channel, from the inputs as they stand (R10 to R14, R91). -/
def State.demandNow (s : State) (c : Chan) : Demand where
  own := s.ownDemand c
  ownPriority := s.ownPriority c
  effective := s.effectiveDemand treeDepth c
  priority := s.effectivePriority treeDepth c
  contributing := (s.cfg c).parent.isSome && s.mayContribute c && s.effectiveDemand treeDepth c

/-! ### What the controllers do with a hand-on (R16, R54, R56, R61, R64, R66, R107, R108, R125) -/

/-- A demand arrival: the demand item is set, and a channel in OFF and ENABLED enters QUEUED. -/
def State.demandArrival (s : State) (c : Chan) : State :=
  let t := s.setCtl c { s.ctl c with demand := true }
  match (s.ctl c).state with
  | .off => if (s.cfg c).admin = .enabled then t.enterQueued c else t
  | .retired | .queued | .softstart | .isOn | .switchover | .stopping | .retryWait | .latched => t

/-- The early end of a retry wait (R107): back-off stopped; STOPPING without notice while the discharge
runs, otherwise OFF. -/
def State.abandonRetry (s : State) (c : Chan) : State :=
  let k := s.ctl c
  let t := s.setCtl c { k with state := .stopping, backoff := none }
  if k.discharge.isSome then t else t.enterOff c

/-- A demand loss: the demand item is cleared; QUEUED goes to OFF, a running channel stops with
RELEASED, a retry wait ends early. -/
def State.demandLoss (s : State) (c : Chan) : State :=
  let t := s.setCtl c { s.ctl c with demand := false }
  match (s.ctl c).state with
  | .queued => (t.unqueue c).enterOff c
  | .softstart | .isOn | .switchover => t.stop .released c
  | .retryWait => t.abandonRetry c
  | .retired | .off | .stopping | .latched => t

/-! ### Recomputation (R15 to R17) -/

/-- The channels above `c`, nearest first; `n` bounds their number. -/
def State.ancestors (s : State) : Nat → Chan → List Chan
  | 0, _ => []
  | n + 1, c =>
    match (s.cfg c).parent with
    | some p => p :: s.ancestors n p
    | none => []

/-- Those of `l` that have no descendant in `l`: their turn comes next, children before parents (R15). -/
def State.lowest (s : State) (l : List Chan) : List Chan :=
  l.filter fun c => l.all fun k => !(s.ancestors treeDepth k).contains c

/-- Hand channel `c`'s change from `old` to the new values: a demand arrival, a demand loss, or a
changed priority (R16, R17). -/
def State.handOn (s : State) (old : Demand) (c : Chan) : State :=
  match old.effective, (s.dem c).effective with
  | false, true => s.demandArrival c
  | true, false => s.demandLoss c
  | true, true => if old.priority = (s.dem c).priority then s else s.reprioritize c
  | false, false => s

/-- A value the Claim Arbiter hands on has changed: effective demand, or the effective priority of a
channel with demand (R16, R17). -/
def Demand.changed (old new : Demand) : Bool :=
  old.effective ≠ new.effective || (new.effective && old.priority ≠ new.priority)

/-- The recomputation: new values for every channel, then the changes handed on, children before
parents, unrelated channels in a free order (R15 to R17; logs 7 and 11). -/
def State.recompute (s : State) : State :=
  let old := s.demand
  let t := { s with demand := tabulate s.demandNow }
  let todo := allChans.filter fun c => (look old c).changed (t.dem c)
  inFreeOrder s.lowest (fun c u => u.handOn (look old c) c) todo.length todo t

/-! ### Claim drops and session events (R18, R21, R22) -/

/-- The records of a set of slots removed from the table. -/
def State.removeClaims (s : State) (named : Chan → HostId → Bool) : State :=
  { s with
    claims := tabulate fun c => tabulate fun h => if named c h then none else s.claimOf c h }

/-- The number of records a set of slots holds. -/
def State.countClaims (s : State) (named : Chan → HostId → Bool) : Nat :=
  (allChans.map fun c => (allHosts.filter fun h => named c h && (s.claimOf c h).isSome).length).sum

/-- A reported drop: a CLAIM_DROPPED record per removed record, by channel and then by host, to OPEN
holders; then every record removed; then one recomputation (R18). -/
def State.dropReported (s : State) (named : Chan → HostId → Bool) (cause : DropCause) : State :=
  let told := allChans.foldl
    (fun t c => allHosts.foldl
      (fun u h =>
        match named c h, s.claimOf c h with
        | true, some x => u.reportDrop c h x.tag cause
        | true, none | false, _ => u) t) s
  (told.removeClaims named).recompute

/-- A drop without notice: every record removed, then one recomputation (R21, R22). -/
def State.dropSilently (s : State) (named : Chan → HostId → Bool) : State :=
  (s.removeClaims named).recompute

/-- Every ACTIVE record of `h` becomes ORPHANED (R21). -/
def State.orphan (s : State) (h : HostId) : State :=
  { s with
    claims := tabulate fun c => tabulate fun g =>
      if g = h then (s.claimOf c g).map fun x => { x with state := .orphaned } else s.claimOf c g }

/-- Every ORPHANED record of `h` becomes ACTIVE (R22). -/
def State.adopt (s : State) (h : HostId) : State :=
  { s with
    claims := tabulate fun c => tabulate fun g =>
      if g = h then (s.claimOf c g).map fun x => { x with state := .active } else s.claimOf c g }

/-- The slot holds an ORPHANED record. -/
def State.isOrphan (s : State) (c : Chan) (h : HostId) : Bool :=
  match s.claimOf c h with
  | some x => x.state = .orphaned
  | none => false

end Sys2Proof.Machine
end

