-- ==== Sys2Proof/Machine/Budget.lean ====
section
/-! DEFINITION. Faults and soft-start entries of the Channel Controllers, and the Budget Arbiter: target rails, candidates, preemption, grants and examinations (R33 to R45, R57, R93, R97, R100 to R103). -/

namespace Sys2Proof.Machine

/-! ### The fault (R100 to R103) -/

/-- The back-off with retry count `n`: base × 2^(n−1) × 10 ms (R102). -/
def backoffTime (base n : Nat) : Nat := base * 2 ^ (n - 1) * 10

/-- A fault taken in SOFTSTART or ON, in the steps of R100: FAULTED, then any cascade, then at entry to
LATCHED the recomputation with the stops of ancestors that lose demand, in the order that R178's table
gives for a fault that enters LATCHED (R103, R178). -/
def State.fault (s : State) (cause : FaultCause) (c : Chan) : State :=
  let k := s.ctl c
  let f := s.cfg c
  let n := k.retryCount + 1
  let latches := f.retryLimit < n
  let t := ((s.uncharge c).quiet c).setCtl c { k with
    state := if latches then .latched else .retryWait
    sub := .noSub, chargedRail := none, retryCount := n, lastFault := some cause
    softStart := none, blanking := none, stable := none
    discharge := startTimer f.dischargeTime
    backoff := if latches then none else some (backoffTime f.backoffBase n) }
  let u := t.reportChannel c (.faulted cause n latches)
  let v := if k.state = .isOn then u.cascade c else u
  if latches then v.recompute else v

/-! ### Entry to SOFTSTART (R57, R93, R97, R126) -/

/-- The fault that the entry check of a fault source takes, if any (R93, R97). -/
def State.entryFault (s : State) (c : Chan) : Option FaultCause :=
  match (s.cfg c).faultSource with
  | .forced => some .forced
  | .xf k | .senseXf k => if look s.xf k then some .external else none
  | .noSource | .sense => none

/-- Entry to SOFTSTART on the charged rail: timers started, then the entry check (R57, R126). -/
def State.enterSoftstart (s : State) (c : Chan) : State :=
  let f := s.cfg c
  let t := s.setCtl c { s.ctl c with
    state := .softstart
    sub := if f.blanking = 0 then .ramp else .blanking
    softStart := some f.softStart
    blanking := startTimer f.blanking
    deadTime := none }
  match t.entryFault c with
  | some cause => t.fault cause c
  | none => t

/-! ### Target rail and eligibility (R33, R34) -/

def State.isUp (s : State) (r : Rail) : Bool := (s.rail r).state = .up

/-- The rails of a feed, the preferred one first (R33). -/
def feedRails : Feed → List Rail
  | .aOnly => [.a]
  | .bOnly => [.b]
  | .aThenB => [.a, .b]
  | .bThenA => [.b, .a]

/-- The target rail of a queued channel (R33). -/
def State.target (s : State) (c : Chan) : Option Rail := (feedRails (s.cfg c).feed).find? s.isUp

/-- The parent is NONE or ON (R34). -/
def State.parentOn (s : State) (c : Chan) : Bool :=
  match (s.cfg c).parent with
  | some p => (s.ctl p).state = .isOn
  | none => true

/-- Rail `r`'s candidate: the first entry that is eligible and targets it (R34, R36). -/
def State.candidate (s : State) (r : Rail) : Option QueueEntry :=
  s.queue.find? fun e => s.parentOn e.chan && s.target e.chan = some r

/-! ### Preemption (R40 to R43) -/

/-- A charge on the rail whose channel may be shed for a requester of priority `p` (R40). -/
def State.sheddable (s : State) (p : Nat) (x : Charge) : Bool :=
  (s.ctl x.chan).state.closed &&
    ((s.children x.chan).all fun k => !(s.ctl k).state.active) &&
    (s.dem x.chan).priority < p

/-- The victim order: effective priority ascending, then grant number descending (R41). -/
def State.shedsBefore (s : State) (x y : Charge) : Bool :=
  (s.dem x.chan).priority < (s.dem y.chan).priority ||
    ((s.dem x.chan).priority = (s.dem y.chan).priority && y.grantNumber < x.grantNumber)

/-- Rail `r`'s shed candidates for a requester of priority `p`, in victim order (R40, R41). -/
def State.shedCandidates (s : State) (r : Rail) (p : Nat) : List Charge :=
  sortBy s.shedsBefore ((s.account r).charges.filter (s.sheddable p))

/-- The walk of R42: the first candidates whose classes, with `have_` AU at hand, reach `need`; none if
all of them do not. With enough at hand it takes nobody. -/
def walk (need : Nat) : Nat → List Charge → Option (List Charge)
  | atHand, [] => if need ≤ atHand then some [] else none
  | atHand, x :: xs =>
    if need ≤ atHand then some [] else (walk need (atHand + x.classAU) xs).map (x :: ·)

/-- The victims a requester of priority `p` that needs `need` AU on rail `r` sheds; none if it does not
fit even so (R38, R42). -/
def State.victims (s : State) (r : Rail) (p need : Nat) : Option (List Charge) :=
  walk need (s.account r).free (s.shedCandidates r p)

/-- The victims stop with cause SHED, in victim order (R43). -/
def State.shed (s : State) (victims : List Charge) : State :=
  victims.foldl (fun t x => t.stop .shed x.chan) s

/-! ### Grants and examinations (R36 to R38, R43) -/

/-- A grant of `c` on rail `r` (R38). -/
def State.grant (s : State) (c : Chan) (r : Rail) : State :=
  let n := s.grantCounter
  let t := { s.unqueue c with grantCounter := n + 1 }
  let u := t.charge r ⟨c, (s.cfg c).classAU, n⟩
  (u.setCtl c { u.ctl c with chargedRail := some r, grantNumber := n }).enterSoftstart c

/-- What an examination of rail `r` would do next: grant its candidate after shedding these victims, or
nothing (R37, R42). -/
def State.admission (s : State) (r : Rail) : Option (Chan × List Charge) :=
  match s.candidate r with
  | some e => (s.victims r e.priority (s.cfg e.chan).classAU).map fun v => (e.chan, v)
  | none => none

/-- An examination of rail `r`: grants, one after another, until its candidate waits or it has none (R37).
`n` bounds the grants. -/
def State.examineRail (r : Rail) : Nat → State → State
  | 0, s => s
  | n + 1, s =>
    match s.admission r with
    | some (c, victims) => State.examineRail r n ((s.shed victims).grant c r)
    | none => s

/-- More grants than one examination can make (log 9). -/
def grantBound : Nat := 1024

/-- Examinations of both rails until both candidates wait; where both can be granted, the order is a free
choice (R37, log 7). `n` bounds the rounds. -/
def State.examineBoth : Nat → State → State
  | 0, s => s
  | n + 1, s =>
    match (s.admission .a).isSome, (s.admission .b).isSome with
    | false, false => s
    | true, false => State.examineBoth n (State.examineRail .a grantBound s)
    | false, true => State.examineBoth n (State.examineRail .b grantBound s)
    | true, true =>
      match pick [Rail.a, Rail.b] s with
      | some (r, t) => State.examineBoth n (State.examineRail r grantBound t)
      | none => s

/-- More rounds than one event can bring (log 9). -/
def roundBound : Nat := 64

/-- What the Budget Arbiter reads for its decisions (R37). -/
structure BudgetView where
  queue : List QueueEntry
  accounts : PerRail Account
  railStates : PerRail RailState
  states : Vector ChannelState 16
  priorities : Vector Nat 16
  classes : Vector Nat 16
  feeds : Vector Feed 16
  parents : Vector (Option Chan) 16
  deriving DecidableEq, Repr

/-- What the Budget Arbiter reads, as it stands. -/
def State.budgetView (s : State) : BudgetView where
  queue := s.queue
  accounts := s.accounts
  railStates := ⟨s.rails.railA.state, s.rails.railB.state⟩
  states := tabulate fun c => (s.ctl c).state
  priorities := tabulate fun c => (s.dem c).priority
  classes := tabulate fun c => (s.cfg c).classAU
  feeds := tabulate fun c => (s.cfg c).feed
  parents := tabulate fun c => (s.cfg c).parent

/-- The examinations an event brings, once it is whole: they are made when something the Budget Arbiter
reads has changed since `before` (R26, R37, R84, R123; log 8). -/
def State.settle (before after : State) : State :=
  if after.budgetView = before.budgetView then after else State.examineBoth roundBound after

end Sys2Proof.Machine
end

