-- ==== Sys2Proof/Machine/Operands.lean ====
section
/-! DEFINITION. Every operand form and code of the host port: byte order, operand ranges, result codes and enumerated codes (R181, R189, R193, R197). -/

namespace Sys2Proof.Machine

/-! ### Byte order: most significant byte first (00_scope.md, Numbers) -/

def byteOf (n : Nat) : Byte := BitVec.ofNat 8 n

/-- Two bytes, most significant first. -/
def be16 (x : BitVec 16) : List Byte := [x.extractLsb' 8 8, x.extractLsb' 0 8]

/-- Four bytes, most significant first. -/
def be32 (x : BitVec 32) : List Byte :=
  [x.extractLsb' 24 8, x.extractLsb' 16 8, x.extractLsb' 8 8, x.extractLsb' 0 8]

/-- A count of AU sent in two bytes. -/
def be16Of (n : Nat) : List Byte := be16 (BitVec.ofNat 16 n)

/-- The 16-bit operand of two bytes, most significant first. -/
def word16 (hi lo : Byte) : BitVec 16 := hi ++ lo

def boolByte (b : Bool) : Byte := if b then 1 else 0

/-- NONE, UNMAPPED and "no holder" are sent as 255 (R189). -/
def absentCode : Byte := 255

def chanCode : Option (Fin 16) → Byte
  | some c => byteOf c.val
  | none => absentCode

def hostCode : Option HostId → Byte
  | some h => byteOf h.val
  | none => absentCode

/-! ### Codes of R197 -/

def Rail.code : Rail → Byte
  | .a => 0
  | .b => 1

def railCode : Option Rail → Byte
  | some r => Rail.code r
  | none => absentCode

def ChannelState.code : ChannelState → Byte
  | .retired => 0
  | .off => 1
  | .queued => 2
  | .softstart => 3
  | .isOn => 4
  | .switchover => 5
  | .stopping => 6
  | .retryWait => 7
  | .latched => 8

def newStateCode : Option ChannelState → Byte
  | some x => x.code
  | none => absentCode

def SubState.code : SubState → Byte
  | .noSub => 0
  | .blanking => 1
  | .ramp => 2

def RailState.code : RailState → Byte
  | .down => 0
  | .rising => 1
  | .up => 2
  | .falling => 3

def StopCause.code : StopCause → Byte
  | .released => 1
  | .shed => 2
  | .held => 3
  | .railLost => 4
  | .parentLost => 5

def FaultCause.code : FaultCause → Byte
  | .overcurrent => 1
  | .external => 2
  | .pgLost => 3
  | .softstartTimeout => 4
  | .forced => 5

def lastFaultCode : Option FaultCause → Byte
  | some x => x.code
  | none => 0

def DropCause.code : DropCause → Byte
  | .config => 1
  | .detached => 2

def ResetCause.code : ResetCause → Byte
  | .powerOn => 0
  | .pin => 1

def StoreState.code : StoreState → Byte
  | .idle => 0
  | .loading _ => 1
  | .writing _ => 2

def adminCode : Admin → Byte
  | .enabled => 0
  | .held => 1
  | .retired => 2

def policyCode : Policy → Byte
  | .any => 0
  | .all => 1
  | .line => 2
  | .pinned => 3

def feedCode : Feed → Byte
  | .aOnly => 0
  | .bOnly => 1
  | .aThenB => 2
  | .bThenA => 3

def faultSourceCode : FaultSource → Byte
  | .noSource => 0
  | .sense => 1
  | .xf k => byteOf (2 + k.val)
  | .senseXf k => byteOf (6 + k.val)
  | .forced => 10

def actionCode : DetachAction → Byte
  | .notify => 0
  | .release => 1

/-! ### Enumerated and ranged operands (R133, R135, R136, R139, R143, R145, R150) -/

/-- A channel operand, 0 to 15. -/
def chanOperand (b : Byte) : Option Chan :=
  if h : b.toNat < 16 then some ⟨b.toNat, h⟩ else none

/-- A host or line operand, 0 to 3. -/
def fourOperand (b : Byte) : Option (Fin 4) :=
  if h : b.toNat < 4 then some ⟨b.toNat, h⟩ else none

/-- A parent or mapping operand: 0 to 15, or 255 for NONE or UNMAPPED (R136, R145). -/
def optionalChanOperand (b : Byte) : Option (Option Chan) :=
  if b = absentCode then some none else (chanOperand b).map some

def railOperand (b : Byte) : Option Rail :=
  match b.toNat with
  | 0 => some .a
  | 1 => some .b
  | _ => none

def policyOperand (b : Byte) : Option Policy :=
  match b.toNat with
  | 0 => some .any
  | 1 => some .all
  | 2 => some .line
  | 3 => some .pinned
  | _ => none

def feedOperand (b : Byte) : Option Feed :=
  match b.toNat with
  | 0 => some .aOnly
  | 1 => some .bOnly
  | 2 => some .aThenB
  | 3 => some .bThenA
  | _ => none

def faultSourceOperand (b : Byte) : Option FaultSource :=
  match b.toNat with
  | 0 => some .noSource
  | 1 => some .sense
  | 2 => some (.xf 0)
  | 3 => some (.xf 1)
  | 4 => some (.xf 2)
  | 5 => some (.xf 3)
  | 6 => some (.senseXf 0)
  | 7 => some (.senseXf 1)
  | 8 => some (.senseXf 2)
  | 9 => some (.senseXf 3)
  | 10 => some .forced
  | _ => none

def actionOperand (b : Byte) : Option DetachAction :=
  match b.toNat with
  | 0 => some .notify
  | 1 => some .release
  | _ => none

def orphanOperand (b : Byte) : Option OrphanMode :=
  match b.toNat with
  | 0 => some .keep
  | 1 => some .drop
  | _ => none

def flagOperand (b : Byte) : Option Bool :=
  match b.toNat with
  | 0 => some false
  | 1 => some true
  | _ => none

/-- A claimant set operand: 1 to 15, bit n for Hn (R136). -/
def claimantsOperand (b : Byte) : Option (BitVec 4) :=
  if 1 ≤ b.toNat ∧ b.toNat ≤ 15 then some (b.extractLsb' 0 4) else none

/-- A number operand within a range, both ends included. -/
def rangeOperand (lo hi : Nat) (b : Byte) : Option Nat :=
  if lo ≤ b.toNat ∧ b.toNat ≤ hi then some b.toNat else none

/-! ### Result codes and replies (R189, R193) -/

/-- The result codes of R193. -/
inductive Result where
  | ok
  | empty
  | starting
  | frameError
  | noSession
  | badCommand
  | badLength
  | badValue
  | unmapped
  | notClaimable
  | notPermitted
  | noClaim
  | notFaulted
  | locked
  | notHolder
  | needsLease
  | channelActive
  | badParent
  | hasChildren
  | overAllocated
  | claimPresent
  | duplicateMap
  | hostOpen
  | busy
  | seqReused
  deriving DecidableEq, Repr

def Result.code : Result → Byte
  | .ok => 0x01
  | .empty => 0x02
  | .starting => 0x03
  | .frameError => 0x04
  | .noSession => 0x05
  | .badCommand => 0x06
  | .badLength => 0x07
  | .badValue => 0x08
  | .unmapped => 0x09
  | .notClaimable => 0x0A
  | .notPermitted => 0x0B
  | .noClaim => 0x0C
  | .notFaulted => 0x0D
  | .locked => 0x0E
  | .notHolder => 0x0F
  | .needsLease => 0x10
  | .channelActive => 0x11
  | .badParent => 0x12
  | .hasChildren => 0x13
  | .overAllocated => 0x14
  | .claimPresent => 0x15
  | .duplicateMap => 0x16
  | .hostOpen => 0x17
  | .busy => 0x18
  | .seqReused => 0x19

/-- What a command answers: its result and its data bytes (R189). -/
structure Reply where
  result : Result
  data : List Byte
  deriving DecidableEq, Repr

/-- A refusal carries no data (R189). -/
def refuse (r : Result) : Reply := ⟨r, []⟩

/-- OK with data. -/
def okReply (data : List Byte) : Reply := ⟨.ok, data⟩

/-- The response frame: RESULT, the request's SEQ, RLEN and the data (R181, R194). -/
def responseFrame (seq : Byte) (r : Reply) : List Byte :=
  r.result.code :: seq :: byteOf r.data.length :: r.data

/-! ### Notice records (R166, R167, R195) -/

/-- The kind code (R197). -/
def Report.kindCode : Report → Byte
  | .granted _ => 1
  | .stopped _ _ => 2
  | .faulted _ _ _ => 3
  | .switched _ _ => 4
  | .detached _ => 5
  | .claimDropped _ => 6
  | .railUp _ => 7
  | .railDown _ => 7
  | .commitDone _ => 8
  | .commitFailed _ => 9

/-- The cause code for the kind, 0 for NONE (R195, R197). -/
def Report.causeCode : Report → Byte
  | .stopped cause _ => cause.code
  | .faulted cause _ _ => cause.code
  | .claimDropped cause => cause.code
  | .railUp _ => 1
  | .railDown _ => 2
  | .granted _ | .switched _ _ | .detached _ | .commitDone _ | .commitFailed _ => 0

/-- The four detail bytes (R195). -/
def Report.detail : Report → List Byte
  | .granted r => [railCode r, 0, 0, 0]
  | .stopped _ r => [railCode r, 0, 0, 0]
  | .faulted _ n latched => [byteOf n, boolByte latched, 0, 0]
  | .switched lost new => [Rail.code lost, Rail.code new, 0, 0]
  | .detached act => [actionCode act, 0, 0, 0]
  | .claimDropped _ => [0, 0, 0, 0]
  | .railUp r => [Rail.code r, 0, 0, 0]
  | .railDown r => [Rail.code r, 0, 0, 0]
  | .commitDone g => be32 g
  | .commitFailed g => be32 g

/-- The 16 data bytes of a NEXT_NOTICE answered OK (R195). -/
def noticeBytes (n : Notice) (remaining : Nat) : List Byte :=
  [n.report.kindCode, chanCode n.logical, n.report.causeCode, newStateCode n.newState]
    ++ be16 n.tag ++ n.report.detail ++ be32 n.time ++ [boolByte n.lostAfter, byteOf remaining]

/-- The twenty bytes of a channel configuration record, in the order of R131 (R142). -/
def channelConfigBytes (f : ChannelConfig) : List Byte :=
  [adminCode f.admin, policyCode f.policy, byteOf f.claimants.toNat, byteOf f.enableLine.val,
    byteOf f.floor, chanCode f.parent, byteOf f.classAU, byteOf f.tripThreshold, byteOf f.tripFilter,
    feedCode f.feed, byteOf f.softStart, byteOf f.blanking, byteOf f.dischargeTime,
    byteOf f.deadTime, faultSourceCode f.faultSource, byteOf f.retryLimit, byteOf f.backoffBase,
    byteOf f.detachThreshold, byteOf f.detachTime, actionCode f.detachAction]

end Sys2Proof.Machine
end

