-- ==== Sys2Proof/Machine/Port.lean ====
section
/-! DEFINITION. What a Host Port does with a request frame: the steps of R184, the replay store, the lease (R149, R153, R183 to R187). -/

namespace Sys2Proof.Machine

/-- A command as its block takes it: from the port, its operand bytes and the state to the new state and
the reply (R184, step 5). -/
abbrev Body := HostId → List Byte → State → State × Reply

/-- The command codes that the port itself looks at (R149, R158, R189). -/
def codeIdentify : Byte := 0x01
def codeOpen : Byte := 0x02
def codeClose : Byte := 0x03

/-- A frame answered with the bytes of a response: the receiver enters RESPONSE (R180). -/
def State.respond (s : State) (h : HostId) (frame : List Byte) : State :=
  s.setPort h { s.port h with receiver := .response, response := frame }

/-- A frame answered with a reply. -/
def State.answer (s : State) (h : HostId) (seq : Byte) (r : Reply) : State :=
  s.respond h (responseFrame seq r)

/-- The full lease of a lease period, stopped for 0 (R148). -/
def fullLease (period : Nat) : Option Nat := if period = 0 then none else some (period * 100)

/-- An answered frame restarts a running lease timer of an OPEN session (R153). -/
def State.renewLease (s : State) (h : HostId) : State :=
  let p := s.port h
  if p.session = .opened && p.leaseTimer.isSome then
    s.setPort h { p with leaseTimer := fullLease p.leasePeriod }
  else s

/-- The session state admits the command (R149). -/
def Session.admits (x : Session) (cmd : Byte) : Bool :=
  match x with
  | .opened => true
  | .closed | .lapsed => cmd = codeIdentify || cmd = codeOpen

/-- The replay store's entry that a frame with this SEQ is compared with (R184 step 2, R187). -/
def Port.stored (p : Port) (seq : Byte) : Option ReplayEntry :=
  match p.replay with
  | some e => if seq ≠ 0 && e.seq = seq then some e else none
  | none => none

/-- An executed frame with SEQ not 0 is stored with its response, but for a CLOSE that ends the session
(R184, R186). -/
def State.store (s : State) (h : HostId) (seq cmd : Byte) (ops : List Byte) (r : Reply) : State :=
  if seq = 0 || (cmd = codeClose && r.result = .ok) then s
  else
    s.setPort h { s.port h with replay := some ⟨seq, cmd, ops, responseFrame seq r⟩ }

/-- Steps 3 to 5 of R184: a frame that is not a repeat. -/
def State.execute (s : State) (h : HostId) (seq cmd : Byte) (ops : List Byte) (body : Body) : State :=
  if (s.port h).session.admits cmd then
    let out := body h ops (s.renewLease h)
    (out.1.store h seq cmd ops out.2).answer h seq out.2
  else s.answer h seq (refuse .noSession)

/-- Step 2 of R184: a frame whose SEQ is stored. The stored response for an identical frame, SEQ_REUSED
for another; the lease is renewed (R187). -/
def State.replay (s : State) (h : HostId) (seq cmd : Byte) (ops : List Byte) (e : ReplayEntry) : State :=
  if e.cmd = cmd && e.ops = ops then (s.renewLease h).respond h e.response
  else (s.renewLease h).answer h seq (refuse .seqReused)

/-- A request frame that ends on port `h`, its command taken by `body`. Bytes that arrive outside REQUEST
are ignored (R180); while Profile Memory loads the answer is STARTING (R185); otherwise the steps of R184. -/
def State.takeFrame (s : State) (h : HostId) (seq cmd : Byte) (ops : List Byte) (body : Body) : State :=
  if (s.port h).receiver = .request then
    if s.isLoading then s.answer h seq (refuse .starting)
    else if 12 < ops.length then s.answer h seq (refuse .frameError)
    else
      match (s.port h).stored seq with
      | some e => s.replay h seq cmd ops e
      | none => s.execute h seq cmd ops body
  else s

/-- The reply to a frame whose CMD names no command (R184 step 4). -/
def badCommandBody : Body := fun _ _ s => (s, refuse .badCommand)

/-- Host `h` holds the configuration lock (R161). -/
def State.holdsLock (s : State) (h : HostId) : Bool := s.lock = some h

/-- The channel state and admin state data of the configuration commands (R189). -/
def State.statusData (s : State) (c : Chan) : List Byte :=
  [(s.ctl c).state.code, adminCode (s.cfg c).admin]

end Sys2Proof.Machine
end

