-- ==== Sys2Proof/Machine/Profile.lean ====
section
/-! DEFINITION. COMMIT and its completion, and the validity of a slot (R198, R201 to R203). -/

namespace Sys2Proof.Machine

/-- The largest generation a COMMIT may find current (R201). -/
def lastGeneration : BitVec 32 := 0xFFFFFFFE#32

def SlotId.other : SlotId → SlotId
  | .slot0 => .slot1
  | .slot1 => .slot0

/-- The target slot of a COMMIT: slot 0 when the current generation is 0, otherwise the slot that is not
current (R201). -/
def ProfileMemory.target (m : ProfileMemory) : SlotId :=
  if m.currentGeneration = 0 then .slot0
  else
    match m.currentSlot with
    | some i => i.other
    | none => .slot0

/-- A slot is valid: its check matches and its generation is not empty (R198). -/
def Slot.isValid (x : Slot) : Bool :=
  match x.image with
  | some image =>
    x.check = Config.profileCheck x.generation image && x.generation ≠ 0 &&
      x.generation ≠ emptyGeneration
  | none => false

/-- A COMMIT accepted from `h`: snapshot, target erased and marked invalid, WRITING (R201). -/
def State.takeCommit (s : State) (h : HostId) : State :=
  let i := s.pm.target
  { s with
    pm := { (s.pm.setSlot i Slot.erased).setValid i false with
      store := .writing ⟨i, s.pm.currentGeneration + 1, s.config, h, 0⟩ } }

/-- COMMIT (R201). -/
def commitBody : Body := fun h ops s =>
  if s.holdsLock h then
    match ops with
    | [] =>
      match s.pm.store with
      | .writing _ => (s, refuse .busy)
      | .idle | .loading _ =>
        if s.pm.currentGeneration = lastGeneration then (s, refuse .badValue)
        else (s.takeCommit h, okReply (be32 (s.pm.currentGeneration + 1)))
    | _ => (s, refuse .badLength)
  else (s, refuse .notHolder)

/-- The commit ends: with success the target holds the snapshot, is valid and current; with a verify
failure it stays erased and invalid. Either way IDLE, and a notice to the requester (R202). -/
def State.endCommit (s : State) (job : CommitJob) (verified : Bool) : State :=
  if verified then
    let slot : Slot :=
      ⟨job.generation, some job.snapshot, Config.profileCheck job.generation job.snapshot⟩
    ({ s with
      pm := { (s.pm.setSlot job.target slot).setValid job.target true with
        store := .idle, currentGeneration := job.generation, currentSlot := some job.target } }
      : State).reportCommit job.requester (.commitDone job.generation)
  else
    ({ s with
      pm := { (s.pm.setSlot job.target Slot.erased).setValid job.target false with store := .idle } }
      : State).reportCommit job.requester (.commitFailed job.generation)

/-- A commit takes at least this long, in ms (R202). -/
def commitMin : Nat := 30

/-- A commit takes at most this long, in ms (R202). -/
def commitMax : Nat := 80

/-- COMMIT (R201). -/
def execCommit (h : HostId) (seq : Byte) (ops : List Byte) (s : State) :
    Host.Outcome State Fault Refusal :=
  .next (s.takeFrame h seq 0x40 ops commitBody)

/-- COMMIT_COMPLETION: taken from 30 ms after the acceptance on (R202; logs 18 and 20). -/
def execCommitCompletion (verified : Bool) (s : State) : Host.Outcome State Fault Refusal :=
  match s.pm.store with
  | .writing job => .next (if commitMin ≤ job.age then s.endCommit job verified else s)
  | .idle | .loading _ => .next s

end Sys2Proof.Machine
end

