-- ==== Sys2Proof/Machine/RailLoss.lean ====
section
/-! DEFINITION. Rail-loss handling and the switchover it moves channels through (R119 to R124). -/

namespace Sys2Proof.Machine

/-- Steps 1 to 6 of R124: the controller of `c`, moved from `lost` to `new`, enters SWITCHOVER. -/
def State.enterSwitchover (s : State) (c : Chan) (lost new : Rail) : State :=
  let k := s.ctl c
  let t := (s.quiet c).setCtl c { k with
    state := .switchover, sub := .noSub, chargedRail := some new
    softStart := none, blanking := none, stable := none
    deadTime := some (s.cfg c).deadTime }
  let u := t.reportChannel c (.switched lost new)
  if k.state = .isOn then u.cascade c else u

/-- The charge `x` leaves the lost rail's list for its place in the new rail's list, class and grant
number kept (R121). -/
def State.moveCharge (s : State) (x : Charge) (new : Rail) : State :=
  (s.uncharge x.chan).charge new x

/-- The other rail of a channel of the loss list: the rail of its feed that is not the lost one (R120). -/
def State.otherRail (s : State) (c : Chan) (lost : Rail) : Option Rail :=
  (feedRails (s.cfg c).feed).find? fun r => r ≠ lost

/-- A member of the loss list: a charge and its channel's effective priority at the start of the event
(R119, R120). -/
structure LossEntry where
  charge : Charge
  priority : Nat
  deriving DecidableEq, Repr

/-- The order of the loss list: effective priority descending, grant number ascending (R119). -/
def LossEntry.precedes (x y : LossEntry) : Bool :=
  y.priority < x.priority ||
    (x.priority = y.priority && x.charge.grantNumber < y.charge.grantNumber)

/-- The loss list of rail `r` (R119). -/
def State.lossList (s : State) (r : Rail) : List LossEntry :=
  sortBy LossEntry.precedes
    ((s.account r).charges.map fun x => ⟨x, (s.dem x.chan).priority⟩)

/-- Where a channel of the loss list moves and whom it sheds there; none if it does not move (R120). -/
def State.moveOf (s : State) (lost : Rail) (x : LossEntry) : Option (Rail × List Charge) :=
  match s.otherRail x.charge.chan lost with
  | some r =>
    if s.isUp r then (s.victims r x.priority x.charge.classAU).map fun v => (r, v) else none
  | none => none

/-- One channel of the loss list taken wholly: passed over if no longer charged to the lost rail, moved,
or stopped with RAIL_LOST (R119 to R122). -/
def State.takeLoss (s : State) (lost : Rail) (x : LossEntry) : State :=
  if x.charge ∈ (s.account lost).charges then
    match s.moveOf lost x with
    | some (r, victims) =>
      ((s.shed victims).moveCharge x.charge r).enterSwitchover x.charge.chan lost r
    | none => s.stop .railLost x.charge.chan
  else s

/-- The loss expiry of rail `r`: DOWN, the loss list taken in order, RAIL with cause DOWN (R116, R119,
R123). -/
def State.loseRail (s : State) (r : Rail) : State :=
  let t := s.setRail r { s.rail r with state := .down, lossTimer := none }
  ((s.lossList r).foldl (fun u x => u.takeLoss r x) t).reportRail (.railDown r)

/-- Input good at a rail monitor (R114): DOWN starts the restore qualification, FALLING returns to UP. -/
def State.railGood (s : State) (r : Rail) : State :=
  let m := s.rail r
  match m.state with
  | .down =>
    s.setRail r { m with
      state := .rising, restoreTimer := some ((s.config.rails.of r).restoreQual * 10) }
  | .falling => s.setRail r { m with state := .up, lossTimer := none }
  | .rising | .up => s

/-- Input lost at a rail monitor (R114): RISING returns to DOWN, UP starts the loss qualification, which
with duration 0 expires at once (R115). -/
def State.railLost (s : State) (r : Rail) : State :=
  let m := s.rail r
  match m.state with
  | .rising => s.setRail r { m with state := .down, restoreTimer := none }
  | .up =>
    let d := (s.config.rails.of r).lossQual
    let t := s.setRail r { m with state := .falling, lossTimer := startTimer d }
    if d = 0 then t.loseRail r else t
  | .down | .falling => s

end Sys2Proof.Machine
end

