-- ==== Sys2Proof/Machine/Sensing.lean ====
section
/-! DEFINITION. The 1 ms sample, and the trip, enable and detach events (R4, R59, R60, R62, R72 to R74, R94 to R98, R113). -/

namespace Sys2Proof.Machine

/-! ### What the Sense Unit keeps from a sample -/

/-- The trip run after a sample: counted while a rail switch is closed (R94). -/
def nextTripRun (closed : Bool) (f : ChannelConfig) (x : ChannelSense) (current : Nat) : Nat :=
  if closed then (if f.tripThreshold * 10 < current then x.tripRun + 1 else 0) else x.tripRun

/-- The detach run after a sample while it is armed (R72). -/
def nextDetachRun (f : ChannelConfig) (x : ChannelSense) (current : Nat) : Nat :=
  if current < f.detachThreshold then x.detachRun + 1 else 0

/-- The power-good flag after a voltage sample (R59). -/
def nextPowerGood (closed : Bool) (good : Bool) (v : VoltageBand) : Bool :=
  if closed then
    match v with
    | .belowFall => false
    | .between => good
    | .atOrAboveRise => true
  else good

/-- A channel's items after a sample: the current kept, the trip run counted and a trip passed at the
filter value plus 1 or more, the detach run counted and its event passed when it reaches the detach time,
the power-good flag (R59, R72, R94). -/
def sampleChannel (closed : Bool) (f : ChannelConfig) (x : ChannelSense) (current : BitVec 16)
    (v : VoltageBand) : ChannelSense :=
  let run := nextTripRun closed f x current.toNat
  let count := nextDetachRun f x current.toNat
  let fires := x.detachArmed && f.detachTime * 10 ≤ count
  { measured := current
    tripRun := run
    tripPassed := x.tripPassed || (closed && f.tripFilter + 1 ≤ run)
    powerGood := nextPowerGood closed x.powerGood v
    detachRun := if x.detachArmed then count else x.detachRun
    detachArmed := x.detachArmed && !fires
    detachPassed := x.detachPassed || fires }

/-- The samples that qualify a level (R4). -/
def qualifyRun : Nat := 4

/-- An enable line after a sample: the run toward the other level. A complete run stands until the enable
event is taken (R4, log 28). -/
def sampleLine (x : EnableLine) (high : Bool) : EnableLine :=
  if qualifyRun ≤ x.run then x
  else { x with run := if high = x.qualified then 0 else x.run + 1 }

/-- What the Sense Unit keeps from a sample before its events are taken: channel items, enable runs, rail
input levels. The XF levels change by events of the sample (R96, R97). -/
def State.keepSample (s : State) (x : Sample) : State :=
  { s with
    sense := tabulate fun c =>
      sampleChannel (s.ctl c).state.closed (s.cfg c) (s.sen c) (look x.current c) (look x.voltage c)
    enables := tabulate fun k => sampleLine (s.line k) (look x.en k)
    rails := ⟨{ s.rails.railA with good := x.railA }, { s.rails.railB with good := x.railB }⟩ }

/-! ### The events a sample passes on -/

/-- An event of the Sense Unit: one that it passes to a controller, a rail monitor or the Claim Arbiter, or
the change of the level it keeps of an XF line (R96). -/
inductive SenseEvent where
  | powerGoodArrival (c : Chan)
  | powerGoodLoss (c : Chan)
  | xfLevel (k : LineId) (high : Bool)
  | xfAssertion (k : LineId) (c : Chan)
  | railGood (r : Rail)
  | railLost (r : Rail)
  | trip (c : Chan)
  | detach (c : Chan)
  | enable (k : LineId)
  deriving DecidableEq, Repr

/-- The event has a row of its own in the table, so it may be left for that row (log 4). -/
def SenseEvent.hasRow : SenseEvent → Bool
  | .trip _ | .detach _ | .enable _ => true
  | .powerGoodArrival _ | .powerGoodLoss _ | .xfLevel _ _ | .xfAssertion _ _ | .railGood _ | .railLost _ => false

/-- Power-good arrivals and losses, from the flags before and after (R59). -/
def powerEvents (before after : State) : List SenseEvent :=
  allChans.filterMap fun c =>
    match (before.sen c).powerGood, (after.sen c).powerGood with
    | false, true => some (.powerGoodArrival c)
    | true, false => some (.powerGoodLoss c)
    | true, true | false, false => none

/-- The XF line a fault source names (R92). -/
def faultLine : FaultSource → Option LineId
  | .xf k | .senseXf k => some k
  | .noSource | .sense | .forced => none

/-- The XF events of a sample: the kept level of a line changes, and one that is found high passes its
assertion to every controller (R96); those whose source does not name the line ignore it (R92) and are left
out. -/
def State.xfEvents (s : State) (x : Sample) : List SenseEvent :=
  (allLines.filter fun k => look x.xf k ≠ look s.xf k).flatMap fun k =>
    .xfLevel k (look x.xf k) ::
      if look x.xf k then
        (allChans.filter fun c => faultLine (s.cfg c).faultSource = some k).map fun c => .xfAssertion k c
      else []

/-- Input events at the two rail monitors (R113). -/
def railEvents (before after : State) : List SenseEvent :=
  [Rail.a, Rail.b].filterMap fun r =>
    match (before.rail r).good, (after.rail r).good with
    | false, true => some (.railGood r)
    | true, false => some (.railLost r)
    | true, true | false, false => none

/-- The events of a sample that have no row of their own (R59, R96, R113). -/
def State.sampleEvents (s : State) (x : Sample) : List SenseEvent :=
  let t := s.keepSample x
  powerEvents s t ++ s.xfEvents x ++ railEvents s t

/-- A trip, detach or enable event stands passed and is not yet taken (log 4). -/
def State.passedEvents (s : State) : List SenseEvent :=
  (allChans.filter fun c => (s.sen c).tripPassed).map .trip ++
  (allChans.filter fun c => (s.sen c).detachPassed).map .detach ++
  (allLines.filter fun k => qualifyRun ≤ (s.line k).run).map .enable

/-! ### What each event does at the block that takes it -/

/-- Entry to ON at a power-good arrival (R60, R62). -/
def State.enterOn (s : State) (c : Chan) : State :=
  let k := s.ctl c
  let t := s.setCtl c { k with
    state := .isOn, sub := .noSub, softStart := none, blanking := none, stable := some 1000 }
  let u := t.setSen c { t.sen c with
    detachArmed := (s.cfg c).detachThreshold ≠ 0, detachRun := 0, detachPassed := false }
  u.reportChannel c (.granted k.chargedRail)

/-- The controller takes an assertion of line `k`: its source names the line, and it is in SOFTSTART or ON
(R92, R97, R104). -/
def State.takesLine (s : State) (k : LineId) (c : Chan) : Bool :=
  faultLine (s.cfg c).faultSource = some k && (s.ctl c).state.closed

/-- The fault source includes SENSE (R92). -/
def senses : FaultSource → Bool
  | .sense | .senseXf _ => true
  | .noSource | .xf _ | .forced => false

/-- The controller takes a trip: its source includes SENSE and it is ON, or in SOFTSTART past blanking
(R58, R95). -/
def State.takesTrip (s : State) (c : Chan) : Bool :=
  senses (s.cfg c).faultSource &&
    match (s.ctl c).state with
    | .isOn => true
    | .softstart => (s.ctl c).sub = .ramp
    | .retired | .off | .queued | .switchover | .stopping | .retryWait | .latched => false

/-- A trip event that stands passed reaches its controller (R95). -/
def State.takeTrip (s : State) (c : Chan) : State :=
  if (s.sen c).tripPassed then
    let t := s.setSen c { s.sen c with tripPassed := false }
    if s.takesTrip c then t.fault .overcurrent c else t
  else s

/-- A detach event that stands passed reaches its controller in ON: the notice, and with RELEASE the drop
of every claim on the channel (R73, R74, R20). -/
def State.takeDetach (s : State) (c : Chan) : State :=
  if (s.sen c).detachPassed then
    let t := s.setSen c { s.sen c with detachPassed := false }
    if (s.ctl c).state = .isOn then
      let u := t.reportChannel c (.detached (s.cfg c).detachAction)
      match (s.cfg c).detachAction with
      | .notify => u
      | .release => u.dropReported (fun k _ => k = c) .detached
    else t
  else s

/-- A complete run changes the qualified level, and the Claim Arbiter recomputes (R4). -/
def State.takeEnable (s : State) (k : LineId) : State :=
  if qualifyRun ≤ (s.line k).run then
    (s.setLine k ⟨!(s.line k).qualified, 0⟩).recompute
  else s

/-- One event at the block that takes it, its examinations not yet made. A power-good arrival counts only
while the flag it set still stands: switches opened since have cleared it (R59). -/
def State.takeSenseEvent (s : State) : SenseEvent → State
  | .powerGoodArrival c =>
    if (s.ctl c).state = .softstart && (s.sen c).powerGood then s.enterOn c else s
  | .powerGoodLoss c => if (s.ctl c).state = .isOn then s.fault .pgLost c else s
  | .xfLevel k high => { s with xf := put s.xf k high }
  | .xfAssertion k c => if s.takesLine k c then s.fault .external c else s
  | .railGood r => s.railGood r
  | .railLost r => s.railLost r
  | .trip c => s.takeTrip c
  | .detach c => s.takeDetach c
  | .enable k => s.takeEnable k

/-! ### The sample as a whole -/

/-- The event is one of the events `l` that may be taken next: an assertion comes after its line's kept level
is set (R96). -/
def SenseEvent.mayComeNext (l : List SenseEvent) : SenseEvent → Bool
  | .xfAssertion k _ => .xfLevel k true ∉ l
  | .powerGoodArrival _ | .powerGoodLoss _ | .xfLevel _ _ | .railGood _ | .railLost _ | .trip _
  | .detach _ | .enable _ => true

/-- The events open to choice within a sample, while one is left that has no row of its own. -/
def withinSample (l : List SenseEvent) : List SenseEvent :=
  if l.all SenseEvent.hasRow then [] else l.filter (SenseEvent.mayComeNext l)

/-- A trip of the sample that finds its channel in BLANKING is ignored there, and does not wait for the
blanking expiry (R58, R95). -/
def State.ignoreBlanked (s : State) : State :=
  { s with
    sense := tabulate fun c =>
      { s.sen c with tripPassed := (s.sen c).tripPassed && (s.ctl c).sub ≠ .blanking } }

/-- One sample: its events, each whole with its examinations, in a free order. Each trip, detach and
enable event that stands passed is taken at a free place among them, or after them by its own row: the
manual lets either of two coinciding events be taken first (R87, R95, R97, R104, R128; logs 4 and 7). A grant
that one of them brings finds an XF level as it then stands: deasserted before the level's own event, and the
assertion then faults the channel in SOFTSTART; asserted after it (R97). -/
def State.takeSample (s : State) (x : Sample) : State :=
  let t := s.keepSample x
  let events := s.sampleEvents x ++ t.passedEvents
  (inFreeOrder withinSample (fun e u => State.settle u (u.takeSenseEvent e)) events.length events
    t).ignoreBlanked

/-- SENSE_SAMPLE: no sample is taken while Profile Memory loads (R4, R94, R130). -/
def execSenseSample (x : Sample) (s : State) : Host.Outcome State Fault Refusal :=
  .next (if s.isLoading then s else s.takeSample x)

/-- TRIP_EVENT: taken when the Sense Unit has passed it, and not while Profile Memory loads (R95, R199; log 4). -/
def execTripEvent (c : Chan) (s : State) : Host.Outcome State Fault Refusal :=
  .next (if s.isLoading then s else State.settle s (s.takeTrip c))

/-- ENABLE_EVENT: the run toward the other level is complete (R4; log 28). -/
def execEnableEvent (k : LineId) (s : State) : Host.Outcome State Fault Refusal :=
  .next (if s.isLoading then s else State.settle s (s.takeEnable k))

/-- DETACH_EVENT (R73, R74; log 4). -/
def execDetachEvent (c : Chan) (s : State) : Host.Outcome State Fault Refusal :=
  .next (if s.isLoading then s else State.settle s (s.takeDetach c))

end Sys2Proof.Machine
end

