-- ==== Sys2Proof/Machine/Sessions.lean ====
section
/-! DEFINITION. Sessions, leases and the configuration lock: IDENTIFY, OPEN, CLOSE, PING, LOCK, UNLOCK, DROP_CLAIMS and the lapse (R148 to R165, R190, R191). -/

namespace Sys2Proof.Machine

/-- The part code (R190). -/
def partCode : BitVec 16 := 0x1604

/-- The silicon revision, a number from 1 (R190; free value, log 17). -/
def revision : Byte := byteOf (Config.revisionLessOne.val + 1)

/-- IDENTIFY (R190). -/
def identifyBody : Body := fun h ops s =>
  match ops with
  | [] => (s, okReply (be16 partCode ++ [revision, byteOf h.val, 16, 4]))
  | _ => (s, refuse .badLength)

/-- The lock freed if host `h` holds it (R154, R158, R162). -/
def State.freeLock (s : State) (h : HostId) : State :=
  if s.holdsLock h then { s with lock := none } else s

/-- The data of an accepted OPEN (R151). -/
def State.openData (s : State) (adopted : Nat) (lapsed : Bool) : List Byte :=
  [ResetCause.code s.pm.resetCause] ++ be32 s.pm.loadedGeneration ++
    [byteOf adopted, boolByte lapsed, hostCode s.lock]

/-- The session parameters written, the session OPEN and its lease started (R150, R152, R157). -/
def State.openPort (s : State) (h : HostId) (period : Nat) (mode : OrphanMode) (attention : Bool) :
    State :=
  s.setPort h { s.port h with
    session := .opened, leasePeriod := period, leaseTimer := fullLease period
    orphanMode := mode, attention := attention }

/-- An OPEN that passes the checks, in each session state (R150, R152, R157). In OPEN a lease period of 0
releases a lock this host holds (R152). -/
def State.takeOpen (s : State) (h : HostId) (period : Nat) (mode : OrphanMode) (attention : Bool) :
    State × Reply :=
  let t := s.openPort h period mode attention
  match (s.port h).session with
  | .closed => (t, okReply (t.openData 0 false))
  | .opened =>
    let u := if period = 0 then t.freeLock h else t
    (u, okReply (u.openData 0 false))
  | .lapsed =>
    let n := s.countClaims fun c g => g = h && s.isOrphan c g
    let u := t.adopt h
    (u, okReply (u.openData n true))

/-- OPEN: lease period, orphan mode, attention enable (R150). -/
def openBody : Body := fun h ops s =>
  match ops with
  | [period, mode, att] =>
    match orphanOperand mode, flagOperand att with
    | some mode, some att => s.takeOpen h period.toNat mode att
    | _, _ => (s, refuse .badValue)
  | _ => (s, refuse .badLength)

/-- What a lapse and a CLOSE share at the port: the session leaves OPEN, the lease stops, the lock is
released, the replay store and the notice queue are cleared (R154, R158, R176). -/
def State.endSession (s : State) (h : HostId) (x : Session) : State :=
  ((s.setPort h { s.port h with session := x, leaseTimer := none, replay := none }).freeLock h).setNotices h []

/-- CLOSE (R158). -/
def closeBody : Body := fun h ops s =>
  match ops with
  | [] =>
    let n := s.countClaims fun _ g => g = h
    (State.settle s ((s.endSession h .closed).dropSilently fun _ g => g = h), okReply [byteOf n])
  | _ => (s, refuse .badLength)

/-- PING: any operand bytes, sent back behind the device time (R191). -/
def pingBody : Body := fun _ ops s => (s, okReply (be32 s.deviceTime ++ ops))

/-- LOCK (R161). LOCKED alone of the refusals carries data, the holder (R189). -/
def lockBody : Body := fun h ops s =>
  match ops with
  | [] =>
    if (s.port h).leasePeriod = 0 then (s, refuse .needsLease)
    else
      match s.lock with
      | none => ({ s with lock := some h }, okReply [hostCode (some h)])
      | some g => if g = h then (s, okReply [hostCode (some h)]) else (s, ⟨.locked, [hostCode (some g)]⟩)
  | _ => (s, refuse .badLength)

/-- UNLOCK (R162). -/
def unlockBody : Body := fun h ops s =>
  match ops with
  | [] => if s.holdsLock h then ({ s with lock := none }, okReply []) else (s, refuse .notHolder)
  | _ => (s, refuse .badLength)

/-- DROP_CLAIMS: a host (R159, R22). -/
def dropClaimsBody : Body := fun h ops s =>
  if s.holdsLock h then
    match ops with
    | [g] =>
      match fourOperand g with
      | none => (s, refuse .badValue)
      | some g =>
        match (s.port g).session with
        | .opened => (s, refuse .hostOpen)
        | .closed => (s, okReply [0])
        | .lapsed =>
          let named := fun c k => k = g && s.isOrphan c k
          (State.settle s (s.dropSilently named), okReply [byteOf (s.countClaims named)])
    | _ => (s, refuse .badLength)
  else (s, refuse .notHolder)

/-- A lapse: the session LAPSED first, then the claims orphaned or dropped by the orphan mode (R154,
R155, R21). -/
def State.takeLapse (s : State) (h : HostId) : State :=
  let t := s.endSession h .lapsed
  match (s.port h).orphanMode with
  | .keep => t.orphan h
  | .drop => State.settle s (t.dropSilently fun _ g => g = h)

/-- IDENTIFY (R190). -/
def execIdentify (h : HostId) (seq : Byte) (ops : List Byte) (s : State) :
    Host.Outcome State Fault Refusal :=
  .next (s.takeFrame h seq 0x01 ops identifyBody)

/-- OPEN (R150 to R152, R157). -/
def execOpen (h : HostId) (seq : Byte) (ops : List Byte) (s : State) :
    Host.Outcome State Fault Refusal :=
  .next (s.takeFrame h seq 0x02 ops openBody)

/-- CLOSE (R158). -/
def execClose (h : HostId) (seq : Byte) (ops : List Byte) (s : State) :
    Host.Outcome State Fault Refusal :=
  .next (s.takeFrame h seq 0x03 ops closeBody)

/-- PING (R191). -/
def execPing (h : HostId) (seq : Byte) (ops : List Byte) (s : State) :
    Host.Outcome State Fault Refusal :=
  .next (s.takeFrame h seq 0x04 ops pingBody)

/-- LOCK (R161). -/
def execLock (h : HostId) (seq : Byte) (ops : List Byte) (s : State) :
    Host.Outcome State Fault Refusal :=
  .next (s.takeFrame h seq 0x05 ops lockBody)

/-- UNLOCK (R162). -/
def execUnlock (h : HostId) (seq : Byte) (ops : List Byte) (s : State) :
    Host.Outcome State Fault Refusal :=
  .next (s.takeFrame h seq 0x06 ops unlockBody)

/-- DROP_CLAIMS (R159). -/
def execDropClaims (h : HostId) (seq : Byte) (ops : List Byte) (s : State) :
    Host.Outcome State Fault Refusal :=
  .next (s.takeFrame h seq 0x38 ops dropClaimsBody)

/-- LAPSE: taken when the lease of an OPEN session has run out (R154; logs 3 and 20). -/
def execLapse (h : HostId) (s : State) : Host.Outcome State Fault Refusal :=
  .next (if !s.isLoading && (s.port h).session = .opened && (s.port h).leaseTimer = some 0 then
    s.takeLapse h else s)

end Sys2Proof.Machine
end

