-- ==== Sys2Proof/Machine/Clock.lean ====
section
/-! DEFINITION. What the part does by itself on an empty queue: its own due events, and the passing of a millisecond (00_scope.md, Time; R51, R202; logs 2, 3 and 18). -/

namespace Sys2Proof.Machine

/-! ### The part's own due events -/

/-- A timer has run out. -/
def ranOut (t : Option Nat) : Bool := t = some 0

/-- An event of the list if its condition holds. -/
def whenDue (b : Bool) (e : Instr) : List Instr := if b then [e] else []

/-- The due events of a channel: passed sense events and timers run out (R51, R72, R94). -/
def State.dueOfChannel (s : State) (c : Chan) : List Instr :=
  let k := s.ctl c
  whenDue (s.sen c).tripPassed (.tripEvent c) ++
  whenDue (s.sen c).detachPassed (.detachEvent c) ++
  whenDue (ranOut k.blanking) (.blankingExpiry c) ++
  whenDue (ranOut k.softStart) (.softStartExpiry c) ++
  whenDue (ranOut k.stable) (.stableExpiry c) ++
  whenDue (ranOut k.discharge) (.dischargeExpiry c) ++
  whenDue (ranOut k.backoff) (.backoffExpiry c) ++
  whenDue (ranOut k.deadTime) (.deadTimeExpiry c)

/-- The due expiries of a rail monitor (R114). -/
def State.dueOfRail (s : State) (r : Rail) : List Instr :=
  let m := s.rail r
  whenDue (ranOut m.restoreTimer && m.state = .rising) (.restoreExpiry r) ++
  whenDue (ranOut m.lossTimer && m.state = .falling) (.lossExpiry r)

/-- The completion of a commit that has taken its longest time; whether it verifies is a free value
(R202, log 18). -/
def State.dueOfCommit (s : State) : List Instr :=
  match s.pm.store with
  | .writing job =>
    whenDue (commitMax ≤ job.age) (.commitCompletion (Config.writeVerifies s.draws))
  | .idle | .loading _ => []

/-- The completion of a load whose image is chosen: it comes by itself (R199, R200; log 14). -/
def State.dueOfLoad (s : State) : List Instr :=
  match s.pm.store with
  | .loading (.chosen _) => [.loadCompletion]
  | .loading .inReset | .idle | .writing _ => []

/-- Every event of the part's own that is due; while Profile Memory loads only its completion (R199). -/
def State.dueEvents (s : State) : List Instr :=
  if s.isLoading then s.dueOfLoad else
  allChans.flatMap s.dueOfChannel ++
  (allLines.flatMap fun k => whenDue (qualifyRun ≤ (s.line k).run) (.enableEvent k)) ++
  s.dueOfRail .a ++ s.dueOfRail .b ++
  (allHosts.flatMap fun h =>
    whenDue ((s.port h).session = .opened && ranOut (s.port h).leaseTimer) (.lapse h)) ++
  s.dueOfCommit

/-- The next of the part's own due events, in a free order (log 7). -/
def State.ownEvent (s : State) : Option (Instr × State) :=
  match pick s.dueEvents s with
  | some (e, t) => some (e, { t with draws := s.draws + 1 })
  | none => none

/-! ### The passing of a millisecond -/

/-- A timer a millisecond later. -/
def countDown (t : Option Nat) : Option Nat := t.map fun n => n - 1

/-- A controller's timers a millisecond later (R51). -/
def Controller.tick (k : Controller) : Controller :=
  { k with
    softStart := countDown k.softStart
    blanking := countDown k.blanking
    stable := countDown k.stable
    discharge := countDown k.discharge
    backoff := countDown k.backoff
    deadTime := countDown k.deadTime }

/-- A rail monitor's timers a millisecond later (R113). -/
def RailMonitor.tick (m : RailMonitor) : RailMonitor :=
  { m with restoreTimer := countDown m.restoreTimer, lossTimer := countDown m.lossTimer }

/-- The store state a millisecond later: a commit grows older (R202). -/
def StoreState.tick : StoreState → StoreState
  | .writing job => .writing { job with age := job.age + 1 }
  | .idle => .idle
  | .loading p => .loading p

/-- A millisecond of device time: the count, every timer, every lease, the commit (00_scope.md, Time;
R51, R148). Device time does not run while Profile Memory loads (R200). -/
def State.passTime (s : State) : State :=
  if s.isLoading then s
  else
    { s with
      deviceTime := s.deviceTime + 1
      channels := tabulate fun c => (s.ctl c).tick
      rails := ⟨s.rails.railA.tick, s.rails.railB.tick⟩
      ports := tabulate fun h => { s.port h with leaseTimer := countDown (s.port h).leaseTimer }
      pm := { s.pm with store := s.pm.store.tick } }

end Sys2Proof.Machine
end

