-- ==== Sys2Proof/Machine/Resets.lean ====
section
/-! DEFINITION. POWER_ON_RESET, RESET_N, RESET_END and LOAD_COMPLETION (R24, R48, R76, R112, R130, R147, R165, R179, R185, R199, R200). -/

namespace Sys2Proof.Machine

/-- The part put in reset: all volatile state at its reset value, the slots and the select pins as they
are, any commit abandoned (R199, R203). The waiting commands and the draw counter are the model's own and
stay (log 21). -/
def State.afterReset (s : State) (cause : ResetCause) : State :=
  { State.reset with
    pm := ProfileMemory.inReset s.pm.slot0 s.pm.slot1 cause
    ports := tabulate fun h => Port.atReset (s.port h).selected
    draws := s.draws
    pending := s.pending }

/-- A power-on reset is still asserted: RESET_N is then part of it (R199). -/
def State.inPowerOnReset (s : State) : Bool :=
  s.pm.store = .loading .inReset && s.pm.resetCause = .powerOn

/-- The slot whose image is loaded, or none for the defaults (R199). -/
def chooseSlot (slot0 slot1 : Slot) : Option SlotId :=
  match slot0.isValid, slot1.isValid with
  | true, false => some .slot0
  | false, true => some .slot1
  | true, true => if slot0.generation < slot1.generation then some .slot1 else some .slot0
  | false, false => none

/-- The end of the reset: both slots read, their validity found, the image chosen (R199). -/
def State.beginLoad (s : State) : State :=
  { s with
    pm := { s.pm with
      valid0 := s.pm.slot0.isValid
      valid1 := s.pm.slot1.isValid
      store := .loading (.chosen (chooseSlot s.pm.slot0 s.pm.slot1)) } }

/-- The configuration that a choice loads: the slot's image, or the defaults (R147, R199). -/
def State.loadedImage (s : State) (choice : Option SlotId) : Configuration :=
  match choice with
  | some i => ((s.pm.slot i).image).getD Configuration.default
  | none => Configuration.default

/-- The generation that a choice loads (R199). -/
def State.loadedGeneration (s : State) (choice : Option SlotId) : BitVec 32 :=
  match choice with
  | some i => (s.pm.slot i).generation
  | none => 0

/-- A controller at load completion: RETIRED, or STOPPING with its discharge started, which with time 0
ends at once in OFF (R76). -/
def Controller.atLoad (f : ChannelConfig) : Controller :=
  { Controller.atReset with
    state := if f.admin = .retired then .retired
      else if f.dischargeTime = 0 then .off else .stopping
    discharge := if f.admin = .retired then none else startTimer f.dischargeTime }

/-- Load completion: IDLE, device time 0, the configuration and limits taken in, the controllers started,
then the recomputation (R200). -/
def State.completeLoad (s : State) (choice : Option SlotId) : State :=
  let image := s.loadedImage choice
  let generation := s.loadedGeneration choice
  let t : State :=
    { s with
      pm := { s.pm with
        store := .idle, currentGeneration := generation, currentSlot := choice
        loadedGeneration := generation }
      deviceTime := 0
      config := image
      lock := none
      accounts := ⟨{ s.accounts.railA with limit := image.rails.railA.limit },
        { s.accounts.railB with limit := image.rails.railB.limit }⟩
      channels := tabulate fun c => Controller.atLoad (look image.channels c) }
  State.settle s t.recompute

/-- POWER_ON_RESET (R199). -/
def execPowerOnReset (s : State) : Host.Outcome State Fault Refusal := .next (s.afterReset .powerOn)

/-- RESET_N: cause PIN, unless a power-on reset is still asserted, of which it is then part (R199). -/
def execResetN (s : State) : Host.Outcome State Fault Refusal :=
  .next (if s.inPowerOnReset then s else s.afterReset .pin)

/-- RESET_END (R199). -/
def execResetEnd (s : State) : Host.Outcome State Fault Refusal :=
  match s.pm.store with
  | .loading .inReset => .next s.beginLoad
  | .loading (.chosen _) | .idle | .writing _ => .next s

/-- LOAD_COMPLETION (R200). -/
def execLoadCompletion (s : State) : Host.Outcome State Fault Refusal :=
  match s.pm.store with
  | .loading (.chosen choice) => .next (s.completeLoad choice)
  | .loading .inReset | .idle | .writing _ => .next s

end Sys2Proof.Machine
end

