-- ==== Sys2Proof/Machine/Timers.lean ====
section
/-! DEFINITION. The timer expiries of the Channel Controllers and the rail monitors (R51, R58, R63, R67, R99, R106, R114, R119, R126). An expiry is taken when its timer has run out (log 3), and none while Profile Memory loads (R76, R199). -/

namespace Sys2Proof.Machine

/-- Blanking expiry: RAMP (R58). -/
def State.takeBlanking (s : State) (c : Chan) : State :=
  let k := s.ctl c
  s.setCtl c { k with
    blanking := none, sub := if k.state = .softstart then .ramp else k.sub }

/-- Soft-start expiry in SOFTSTART: SOFTSTART_TIMEOUT (R60, R99). -/
def State.takeSoftStart (s : State) (c : Chan) : State :=
  let t := s.setCtl c { s.ctl c with softStart := none }
  if (s.ctl c).state = .softstart then State.settle s (t.fault .softstartTimeout c) else t

/-- Stable expiry in ON: the retry count becomes 0 (R63). -/
def State.takeStable (s : State) (c : Chan) : State :=
  let k := s.ctl c
  s.setCtl c { k with
    stable := none, retryCount := if k.state = .isOn then 0 else k.retryCount }

/-- Discharge expiry: the discharge switch opens; STOPPING ends, and a retry wait whose back-off is over
(R67, R105, R106, R108). -/
def State.takeDischarge (s : State) (c : Chan) : State :=
  let k := s.ctl c
  let t := s.setCtl c { k with discharge := none }
  match k.state with
  | .stopping => State.settle s (t.endWait c)
  | .retryWait => if k.backoff.isSome then t else State.settle s (t.endWait c)
  | .retired | .off | .queued | .softstart | .isOn | .switchover | .latched => t

/-- Back-off expiry: the retry wait ends if the discharge has ended too (R106). -/
def State.takeBackoff (s : State) (c : Chan) : State :=
  let k := s.ctl c
  let t := s.setCtl c { k with backoff := none }
  if k.state = .retryWait && !k.discharge.isSome then State.settle s (t.endWait c) else t

/-- Dead-time expiry in SWITCHOVER: SOFTSTART on the charged rail, with no new grant (R126). -/
def State.takeDeadTime (s : State) (c : Chan) : State :=
  let t := s.setCtl c { s.ctl c with deadTime := none }
  if (s.ctl c).state = .switchover then State.settle s (t.enterSoftstart c) else t

/-- Restore expiry in RISING: UP, and RAIL with cause UP before the examinations (R114, R116). -/
def State.qualifyRail (s : State) (r : Rail) : State :=
  let t := s.setRail r { s.rail r with state := .up, restoreTimer := none }
  State.settle s (t.reportRail (.railUp r))

/-- BLANKING_EXPIRY (R58). -/
def execBlankingExpiry (c : Chan) (s : State) : Host.Outcome State Fault Refusal :=
  .next (if !s.isLoading && (s.ctl c).blanking = some 0 then s.takeBlanking c else s)

/-- SOFT_START_EXPIRY (R99). -/
def execSoftStartExpiry (c : Chan) (s : State) : Host.Outcome State Fault Refusal :=
  .next (if !s.isLoading && (s.ctl c).softStart = some 0 then s.takeSoftStart c else s)

/-- STABLE_EXPIRY (R63). -/
def execStableExpiry (c : Chan) (s : State) : Host.Outcome State Fault Refusal :=
  .next (if !s.isLoading && (s.ctl c).stable = some 0 then s.takeStable c else s)

/-- DISCHARGE_EXPIRY (R67). -/
def execDischargeExpiry (c : Chan) (s : State) : Host.Outcome State Fault Refusal :=
  .next (if !s.isLoading && (s.ctl c).discharge = some 0 then s.takeDischarge c else s)

/-- BACKOFF_EXPIRY (R106). -/
def execBackoffExpiry (c : Chan) (s : State) : Host.Outcome State Fault Refusal :=
  .next (if !s.isLoading && (s.ctl c).backoff = some 0 then s.takeBackoff c else s)

/-- DEAD_TIME_EXPIRY (R126). -/
def execDeadTimeExpiry (c : Chan) (s : State) : Host.Outcome State Fault Refusal :=
  .next (if !s.isLoading && (s.ctl c).deadTime = some 0 then s.takeDeadTime c else s)

/-- RESTORE_EXPIRY (R114, R116). -/
def execRestoreExpiry (r : Rail) (s : State) : Host.Outcome State Fault Refusal :=
  .next (if !s.isLoading && (s.rail r).restoreTimer = some 0 && (s.rail r).state = .rising then
    s.qualifyRail r else s)

/-- LOSS_EXPIRY (R114, R119). -/
def execLossExpiry (r : Rail) (s : State) : Host.Outcome State Fault Refusal :=
  .next (if !s.isLoading && (s.rail r).lossTimer = some 0 && (s.rail r).state = .falling then
    State.settle s (s.loseRail r) else s)

end Sys2Proof.Machine
end

