-- ==== Sys2Proof/Machine/Admin.lean ====
section
/-! DEFINITION. HOLD, UNHOLD, RETIRE, RESTORE and CLEAR_FAULT (R68 to R71, R110, R111, R133, R134, R140, R141). -/

namespace Sys2Proof.Machine

/-- The admin state of `c` written (R131). -/
def State.setAdmin (s : State) (c : Chan) (x : Admin) : State :=
  s.setCfg c { s.cfg c with admin := x }

/-- The checks every one-channel configuration command begins with: NOT_HOLDER, BAD_LENGTH, BAD_VALUE
(R68, R69, R133, R140, R141). -/
def channelCommand (h : HostId) (ops : List Byte) (s : State) (taken : Chan → State × Reply) :
    State × Reply :=
  if s.holdsLock h then
    match ops with
    | [c] =>
      match chanOperand c with
      | none => (s, refuse .badValue)
      | some c => taken c
    | _ => (s, refuse .badLength)
  else (s, refuse .notHolder)

/-- What the controller does with a hold, its admin state HELD (R68). -/
def State.controllerHold (s : State) (c : Chan) : State :=
  match (s.ctl c).state with
  | .queued => (s.unqueue c).enterOff c
  | .softstart | .isOn | .switchover => s.stop .held c
  | .retryWait => s.abandonRetry c
  | .retired | .off | .stopping | .latched => s

/-- HOLD on a channel that is ENABLED: controller first, then the recomputation (R68, R133). -/
def State.takeHold (s : State) (c : Chan) : State :=
  State.settle s ((s.setAdmin c .held).controllerHold c).recompute

/-- HOLD: physical channel (R68). -/
def holdBody : Body := fun h ops s =>
  channelCommand h ops s fun c =>
    let t := if (s.cfg c).admin = .enabled then s.takeHold c else s
    (t, okReply (t.statusData c))

/-- What the controller does with an unhold, its admin state ENABLED (R69). -/
def State.controllerUnhold (s : State) (c : Chan) : State :=
  match (s.ctl c).state with
  | .off => if s.wanted c then s.enterQueued c else s
  | .retired | .queued | .softstart | .isOn | .switchover | .stopping | .retryWait | .latched => s

/-- UNHOLD on a channel that is HELD (R69, R133). -/
def State.takeUnhold (s : State) (c : Chan) : State :=
  State.settle s ((s.setAdmin c .enabled).controllerUnhold c).recompute

/-- UNHOLD: physical channel (R69). -/
def unholdBody : Body := fun h ops s =>
  channelCommand h ops s fun c =>
    let t := if (s.cfg c).admin = .held then s.takeUnhold c else s
    (t, okReply (t.statusData c))

/-- What the controller does with a retirement (R70): RETIRED from OFF or LATCHED, the retry count 0, a
running discharge going on. -/
def State.controllerRetire (s : State) (c : Chan) : State :=
  match (s.ctl c).state with
  | .off | .latched => s.setCtl c { s.ctl c with state := .retired, retryCount := 0 }
  | .retired | .queued | .softstart | .isOn | .switchover | .stopping | .retryWait => s

/-- RETIRE accepted on a channel not yet RETIRED: controller, then the claim drop with its recomputation
(R19, R140). -/
def State.takeRetire (s : State) (c : Chan) : State :=
  State.settle s
    (((s.setAdmin c .retired).controllerRetire c).dropReported (fun k _ => k = c) .config)

/-- RETIRE: physical channel (R140). -/
def retireBody : Body := fun h ops s =>
  channelCommand h ops s fun c =>
    if (s.ctl c).state.configurable then
      if (s.children c).isEmpty then
        if (s.cfg c).admin = .retired then (s, okReply [(s.ctl c).state.code, 0])
        else
          let t := s.takeRetire c
          (t, okReply [(t.ctl c).state.code, byteOf (s.countClaims fun k _ => k = c)])
      else (s, refuse .hasChildren)
    else (s, refuse .channelActive)

/-- What the controller does with a restoration (R71): STOPPING while a discharge runs, otherwise OFF. -/
def State.controllerRestore (s : State) (c : Chan) : State :=
  match (s.ctl c).state with
  | .retired =>
    if (s.ctl c).discharge.isSome then s.setCtl c { s.ctl c with state := .stopping }
    else s.enterOff c
  | .off | .queued | .softstart | .isOn | .switchover | .stopping | .retryWait | .latched => s

/-- RESTORE on a RETIRED channel: ENABLED, controller, then the recomputation (R141). -/
def State.takeRestore (s : State) (c : Chan) : State :=
  State.settle s ((s.setAdmin c .enabled).controllerRestore c).recompute

/-- RESTORE: physical channel (R141). -/
def restoreBody : Body := fun h ops s =>
  channelCommand h ops s fun c =>
    let t := if (s.cfg c).admin = .retired then s.takeRestore c else s
    (t, okReply (t.statusData c))

/-- CLEAR_FAULT in LATCHED: count 0; STOPPING while the discharge runs, otherwise OFF; the state change
reported to the Claim Arbiter (R15, R111). -/
def State.clearLatched (s : State) (c : Chan) : State :=
  let t := s.setCtl c { s.ctl c with retryCount := 0 }
  let u :=
    if (s.ctl c).discharge.isSome then t.setCtl c { t.ctl c with state := .stopping }
    else t.enterOff c
  State.settle s u.recompute

/-- CLEAR_FAULT on channel `c` past checks 1 to 4 of R110 (R110, R111). -/
def State.clearFault (s : State) (c : Chan) : State × Reply :=
  match (s.ctl c).state with
  | .latched =>
    let t := s.clearLatched c
    (t, okReply [(t.ctl c).state.code, byteOf (t.ctl c).retryCount])
  | .retryWait =>
    let t := s.setCtl c { s.ctl c with retryCount := 0 }
    (t, okReply [(t.ctl c).state.code, byteOf (t.ctl c).retryCount])
  | .retired | .off | .queued | .softstart | .isOn | .switchover | .stopping =>
    (s, refuse .notFaulted)

/-- CLEAR_FAULT: logical channel (R110). -/
def clearFaultBody : Body := fun h ops s =>
  match ops with
  | [l] =>
    match chanOperand l with
    | none => (s, refuse .badValue)
    | some l =>
      match (s.viewEntry h l).physical with
      | none => (s, refuse .unmapped)
      | some c =>
        if (s.claimOf c h).isSome || s.holdsLock h then s.clearFault c
        else (s, refuse .notPermitted)
  | _ => (s, refuse .badLength)

/-- CLEAR_FAULT (R110, R111). -/
def execClearFault (h : HostId) (seq : Byte) (ops : List Byte) (s : State) :
    Host.Outcome State Fault Refusal :=
  .next (s.takeFrame h seq 0x15 ops clearFaultBody)

/-- HOLD (R68). -/
def execHold (h : HostId) (seq : Byte) (ops : List Byte) (s : State) :
    Host.Outcome State Fault Refusal :=
  .next (s.takeFrame h seq 0x20 ops holdBody)

/-- UNHOLD (R69). -/
def execUnhold (h : HostId) (seq : Byte) (ops : List Byte) (s : State) :
    Host.Outcome State Fault Refusal :=
  .next (s.takeFrame h seq 0x21 ops unholdBody)

/-- RETIRE (R70, R140). -/
def execRetire (h : HostId) (seq : Byte) (ops : List Byte) (s : State) :
    Host.Outcome State Fault Refusal :=
  .next (s.takeFrame h seq 0x22 ops retireBody)

/-- RESTORE (R71, R141). -/
def execRestore (h : HostId) (seq : Byte) (ops : List Byte) (s : State) :
    Host.Outcome State Fault Refusal :=
  .next (s.takeFrame h seq 0x23 ops restoreBody)

end Sys2Proof.Machine
end

