-- ==== Sys2Proof/Machine/Flags.lean ====
section
/-! DEFINITION. Levels and flag bytes computed from the state: demand flags, claim masks, ATTN_N, the switch drives and the byte on SDO (R50, R76, R177, R180, R189, R196). -/

namespace Sys2Proof.Machine

/-- The demand flags byte: own demand in bit 0, effective demand in bit 1 (R189). -/
def demandFlags (d : Demand) : Byte :=
  byteOf ((if d.own then 1 else 0) + (if d.effective then 2 else 0))

/-- The claim masks byte: claimant mask in bits 0 to 3, orphan mask in bits 4 to 7 (R23, R196). -/
def State.claimMasks (s : State) (c : Chan) : Byte :=
  byteOf ((allHosts.map fun h =>
    match s.claimOf c h with
    | some x => 2 ^ h.val + (if x.state = .orphaned then 2 ^ (4 + h.val) else 0)
    | none => 0).sum)

/-- ATTN_N of port `h` is asserted (R177). -/
def State.attention (s : State) (h : HostId) : Bool :=
  (s.port h).session = .opened && (s.port h).attention && !(s.noticesOf h).isEmpty

/-- CHn_AG and CHn_BG: the switch of rail `r` is closed (R50, R76). -/
def State.railSwitch (s : State) (c : Chan) (r : Rail) : Bool :=
  !s.isLoading && (s.ctl c).state.closed && (s.ctl c).chargedRail = some r

/-- CHn_DG: the discharge switch is closed (R50). Until load completion it is (R76). -/
def State.dischargeSwitch (s : State) (c : Chan) : Bool :=
  s.isLoading ||
    match (s.ctl c).state with
    | .off | .queued | .softstart | .isOn | .switchover => false
    | .stopping => true
    | .retryWait | .latched | .retired => (s.ctl c).discharge.isSome

/-- Byte `i` that port `h` gives on SDO in its transaction, or high impedance (R180). DESIGN CHOICE, unsafe:
0 wherever SEL_N is low and no response is given. R180's table has high impedance where no transaction has
begun since the reset, its text 0x00 with SEL_N low after a reset, and neither speaks of a reset still
asserted (log 26). -/
def State.sdo (s : State) (h : HostId) (i : Nat) : Option Byte :=
  let p := s.port h
  if !p.selected then none
  else
    match p.receiver with
    | .deselected | .request => some 0
    | .response => some ((p.response[i]?).getD 0)

end Sys2Proof.Machine
end

