-- ==== Sys2Proof/Machine/Claims.lean ====
section
/-! DEFINITION. CLAIM and RELEASE (R7 to R9). -/

namespace Sys2Proof.Machine

/-- Host `h`'s claim on `c` made or updated (R8). -/
def State.recordClaim (s : State) (h : HostId) (c : Chan) (priority : Nat) (tag : BitVec 16) : State :=
  s.setClaim c h (some ⟨.active, priority, tag, s.deviceTime⟩)

/-- A CLAIM that passes the checks of R7, taken as one event (R8). -/
def State.takeClaim (s : State) (h : HostId) (c : Chan) (priority : Nat) (tag : BitVec 16) : State :=
  State.settle s (s.recordClaim h c priority tag).recompute

/-- The checks of R7 from check 3 on, once the operands are in range. -/
def claimChecked (h : HostId) (l : Chan) (priority : Nat) (tag : BitVec 16) (s : State) : State × Reply :=
  match (s.viewEntry h l).physical with
  | none => (s, refuse .unmapped)
  | some c =>
    if (s.cfg c).admin = .retired then (s, refuse .notClaimable)
    else if (s.cfg c).policy = .line || (s.cfg c).policy = .pinned then (s, refuse .notClaimable)
    else if ChannelConfig.admits (s.cfg c) h then
      let t := s.takeClaim h c priority tag
      (t, okReply ([boolByte (s.claimOf c h).isSome] ++ be32 s.deviceTime ++
        [demandFlags (t.dem c), byteOf (t.dem c).priority]))
    else (s, refuse .notPermitted)

/-- CLAIM: logical channel, priority, tag in two bytes (R7, R8). -/
def claimBody : Body := fun h ops s =>
  match ops with
  | [l, p, t1, t0] =>
    match chanOperand l, rangeOperand 0 7 p with
    | some l, some priority => claimChecked h l priority (word16 t1 t0) s
    | _, _ => (s, refuse .badValue)
  | _ => (s, refuse .badLength)

/-- A RELEASE that passes its checks, taken as one event (R9). -/
def State.takeRelease (s : State) (h : HostId) (c : Chan) : State :=
  State.settle s (s.setClaim c h none).recompute

/-- RELEASE: logical channel (R9). -/
def releaseBody : Body := fun h ops s =>
  match ops with
  | [l] =>
    match chanOperand l with
    | none => (s, refuse .badValue)
    | some l =>
      match (s.viewEntry h l).physical with
      | none => (s, refuse .unmapped)
      | some c =>
        match s.claimOf c h with
        | none => (s, refuse .noClaim)
        | some x =>
          let t := s.takeRelease h c
          (t, okReply ([byteOf x.priority] ++ be16 x.tag ++
            [demandFlags (t.dem c), byteOf (t.dem c).priority]))
  | _ => (s, refuse .badLength)

/-- CLAIM (R7, R8). -/
def execClaim (h : HostId) (seq : Byte) (ops : List Byte) (s : State) :
    Host.Outcome State Fault Refusal :=
  .next (s.takeFrame h seq 0x10 ops claimBody)

/-- RELEASE (R9). -/
def execRelease (h : HostId) (seq : Byte) (ops : List Byte) (s : State) :
    Host.Outcome State Fault Refusal :=
  .next (s.takeFrame h seq 0x11 ops releaseBody)

end Sys2Proof.Machine
end

