-- ==== Sys2Proof/Machine/Status.lean ====
section
/-! DEFINITION. The reads: CHANNEL_STATUS, RAIL_STATUS, GET_CHANNEL_CONFIG, GET_VIEW_ENTRY, GET_RAIL, PROFILE_STATUS, and NEXT_NOTICE (R46, R47, R142, R143, R146, R174, R192, R204). -/

namespace Sys2Proof.Machine

/-- The class reported: the one charged while charged, otherwise the configured one (R46). -/
def State.reportedClass (s : State) (c : Chan) : Nat :=
  match (s.accounts.railA.charges ++ s.accounts.railB.charges).find? fun x => x.chan = c with
  | some x => x.classAU
  | none => (s.cfg c).classAU

/-- The rail whose account carries the channel's charge (R46). -/
def State.reportedRail (s : State) (c : Chan) : Option Rail :=
  if s.accounts.railA.charges.any fun x => x.chan = c then some .a
  else if s.accounts.railB.charges.any fun x => x.chan = c then some .b
  else none

/-- The low 32 bits of the entry's admission number while QUEUED, 0 otherwise (R46). -/
def State.reportedNumber (s : State) (c : Chan) : BitVec 32 :=
  if (s.ctl c).state = .queued then
    match s.queue.find? fun e => e.chan = c with
    | some e => BitVec.ofNat 32 e.number
    | none => 0
  else 0

/-- The caller's own claim as CHANNEL_STATUS carries it: priority, tag, claim time, each 0 without one
(R23, R196). -/
def callerClaimBytes : Option Claim → List Byte
  | some x => [byteOf x.priority] ++ be16 x.tag ++ be32 x.time
  | none => [0] ++ be16 0 ++ be32 0

/-- The 24 bytes of R196 for channel `c` and caller `h`. -/
def State.channelStatusBytes (s : State) (h : HostId) (c : Chan) : List Byte :=
  let k := s.ctl c
  let d := s.dem c
  [k.state.code, k.sub.code, adminCode (s.cfg c).admin, railCode (s.reportedRail c), demandFlags d,
      byteOf d.priority, byteOf (if d.own then d.ownPriority else 0), byteOf (s.reportedClass c),
      byteOf k.retryCount, lastFaultCode k.lastFault]
    ++ be16 (s.sen c).measured ++ [s.claimMasks c] ++ callerClaimBytes (s.claimOf c h)
    ++ be32 (s.reportedNumber c)

/-- CHANNEL_STATUS: logical channel (R192). -/
def channelStatusBody : Body := fun h ops s =>
  match ops with
  | [l] =>
    match chanOperand l with
    | none => (s, refuse .badValue)
    | some l =>
      match (s.viewEntry h l).physical with
      | none => (s, refuse .unmapped)
      | some c => (s, okReply (s.channelStatusBytes h c))
  | _ => (s, refuse .badLength)

/-- The waiting candidate of rail `r` as caller `h` numbers it (R47). -/
def State.waitingCandidate (s : State) (h : HostId) (r : Rail) : Option Chan :=
  match s.candidate r with
  | some e => s.logicalOf h e.chan
  | none => none

/-- One rail's nine bytes of RAIL_STATUS (R47, R189). -/
def State.railStatusBytes (s : State) (h : HostId) (r : Rail) : List Byte :=
  let x := s.account r
  [(s.rail r).state.code] ++ be16Of x.limit ++ be16Of x.allocated ++ be16Of x.free ++
    [byteOf x.charges.length, chanCode (s.waitingCandidate h r)]

/-- RAIL_STATUS (R47). -/
def railStatusBody : Body := fun h ops s =>
  match ops with
  | [] => (s, okReply (s.railStatusBytes h .a ++ s.railStatusBytes h .b ++ [byteOf s.queue.length]))
  | _ => (s, refuse .badLength)

/-- NEXT_NOTICE (R174). -/
def nextNoticeBody : Body := fun h ops s =>
  match ops with
  | [] =>
    match s.noticesOf h with
    | [] => (s, refuse .empty)
    | n :: rest => (s.setNotices h rest, okReply (noticeBytes n rest.length))
  | _ => (s, refuse .badLength)

/-- GET_CHANNEL_CONFIG: physical channel (R142). -/
def getChannelConfigBody : Body := fun _ ops s =>
  match ops with
  | [c] =>
    match chanOperand c with
    | none => (s, refuse .badValue)
    | some c => (s, okReply (channelConfigBytes (s.cfg c)))
  | _ => (s, refuse .badLength)

/-- An entry of a view as it is sent (R145, R146). -/
def viewEntryBytes (e : ViewEntry) : List Byte := [chanCode e.physical, boolByte e.watch]

/-- GET_VIEW_ENTRY: host, logical channel (R146). -/
def getViewEntryBody : Body := fun _ ops s =>
  match ops with
  | [g, l] =>
    match fourOperand g, chanOperand l with
    | some g, some l => (s, okReply (viewEntryBytes (s.viewEntry g l)))
    | _, _ => (s, refuse .badValue)
  | _ => (s, refuse .badLength)

/-- GET_RAIL: rail (R143). -/
def getRailBody : Body := fun _ ops s =>
  match ops with
  | [r] =>
    match railOperand r with
    | none => (s, refuse .badValue)
    | some r =>
      let x := s.config.rails.of r
      (s, okReply (be16Of x.limit ++ [byteOf x.lossQual, byteOf x.restoreQual]))
  | _ => (s, refuse .badLength)

/-- PROFILE_STATUS (R204). -/
def profileStatusBody : Body := fun _ ops s =>
  match ops with
  | [] =>
    (s, okReply ([StoreState.code s.pm.store] ++
      be32 s.pm.slot0.generation ++ [boolByte s.pm.valid0] ++
      be32 s.pm.slot1.generation ++ [boolByte s.pm.valid1] ++
      be32 s.pm.currentGeneration))
  | _ => (s, refuse .badLength)

/-- CHANNEL_STATUS (R192). -/
def execChannelStatus (h : HostId) (seq : Byte) (ops : List Byte) (s : State) :
    Host.Outcome State Fault Refusal :=
  .next (s.takeFrame h seq 0x12 ops channelStatusBody)

/-- RAIL_STATUS (R47). -/
def execRailStatus (h : HostId) (seq : Byte) (ops : List Byte) (s : State) :
    Host.Outcome State Fault Refusal :=
  .next (s.takeFrame h seq 0x13 ops railStatusBody)

/-- NEXT_NOTICE (R174). -/
def execNextNotice (h : HostId) (seq : Byte) (ops : List Byte) (s : State) :
    Host.Outcome State Fault Refusal :=
  .next (s.takeFrame h seq 0x14 ops nextNoticeBody)

/-- GET_CHANNEL_CONFIG (R142). -/
def execGetChannelConfig (h : HostId) (seq : Byte) (ops : List Byte) (s : State) :
    Host.Outcome State Fault Refusal :=
  .next (s.takeFrame h seq 0x33 ops getChannelConfigBody)

/-- GET_VIEW_ENTRY (R146). -/
def execGetViewEntry (h : HostId) (seq : Byte) (ops : List Byte) (s : State) :
    Host.Outcome State Fault Refusal :=
  .next (s.takeFrame h seq 0x35 ops getViewEntryBody)

/-- GET_RAIL (R143). -/
def execGetRail (h : HostId) (seq : Byte) (ops : List Byte) (s : State) :
    Host.Outcome State Fault Refusal :=
  .next (s.takeFrame h seq 0x37 ops getRailBody)

/-- PROFILE_STATUS (R204). -/
def execProfileStatus (h : HostId) (seq : Byte) (ops : List Byte) (s : State) :
    Host.Outcome State Fault Refusal :=
  .next (s.takeFrame h seq 0x41 ops profileStatusBody)

end Sys2Proof.Machine
end

