-- ==== Sys2Proof/Machine/Configure.lean ====
section
/-! DEFINITION. The SET_CHANNEL family, SET_VIEW_ENTRY and SET_RAIL (R27, R131 to R139, R143, R145). -/

namespace Sys2Proof.Machine

/-! ### SET_CHANNEL_POWER (R135) -/

/-- The nine operands in range and the cross-field conditions met: the channel and the fields written
into its old record (R131, R135). -/
def powerOperands (s : State) : List Byte → Option (Chan × ChannelConfig)
  | [c, cls, thr, flt, feed, soft, blank, dis, dead] => do
    let c ← chanOperand c
    let cls ← rangeOperand 1 200 cls
    let thr ← rangeOperand cls 250 thr
    let flt ← rangeOperand 0 15 flt
    let feed ← feedOperand feed
    let soft ← rangeOperand 1 255 soft
    let blank ← rangeOperand 0 soft blank
    let dead ← rangeOperand 1 50 dead
    some (c, { s.cfg c with
      classAU := cls, tripThreshold := thr, tripFilter := flt, feed := feed, softStart := soft
      blanking := blank, dischargeTime := dis.toNat, deadTime := dead })
  | _ => none

/-- SET_CHANNEL_POWER (R133 to R135). -/
def setChannelPowerBody : Body := fun h ops s =>
  if s.holdsLock h then
    if ops.length = 9 then
      match powerOperands s ops with
      | none => (s, refuse .badValue)
      | some (c, f) =>
        if (s.ctl c).state.configurable then
          let t := State.settle s (s.setCfg c f)
          (t, okReply (t.statusData c))
        else (s, refuse .channelActive)
    else (s, refuse .badLength)
  else (s, refuse .notHolder)

/-! ### SET_CHANNEL_POLICY (R136 to R138) -/

/-- The six operands in range: the channel and the fields written into its old record (R136). -/
def policyOperands (s : State) : List Byte → Option (Chan × ChannelConfig)
  | [c, pol, set, line, floor, parent] => do
    let c ← chanOperand c
    let pol ← policyOperand pol
    let set ← claimantsOperand set
    let line ← fourOperand line
    let floor ← rangeOperand 0 7 floor
    let parent ← optionalChanOperand parent
    some (c, { s.cfg c with
      policy := pol, claimants := set, enableLine := line, floor := floor, parent := parent })
  | _ => none

/-- The depth of `c`: 1 for a root (R77). -/
def State.depth (s : State) (c : Chan) : Nat := (s.ancestors treeDepth c).length + 1

/-- The height of `c`'s subtree: the levels below it (R137); `n` bounds the levels looked at. -/
def State.height (s : State) : Nat → Chan → Nat
  | 0, _ => 0
  | n + 1, c => largest ((s.children c).map fun k => s.height n k + 1)

/-- No chain is longer than this (R77). -/
def maxDepth : Nat := 4

/-- The parent check passes: parent NONE, the parent already held, or a channel that is not `c`, not
RETIRED, no descendant of `c`, and shallow enough (R136, R137). -/
def State.parentAllowed (s : State) (c : Chan) (parent : Option Chan) : Bool :=
  if parent = (s.cfg c).parent then true
  else
    match parent with
    | none => true
    | some p =>
      p ≠ c && (s.cfg p).admin ≠ .retired && !(s.ancestors treeDepth p).contains c &&
        s.depth p + 1 + s.height treeDepth c ≤ maxDepth

/-- The claims that a policy change of `c` to record `f` drops (R19, R138). -/
def State.droppedByPolicy (s : State) (c : Chan) (f : ChannelConfig) (k : Chan) (h : HostId) : Bool :=
  k = c &&
    match f.policy with
    | .line | .pinned => true
    | .any | .all => ChannelConfig.admits (s.cfg c) h && !ChannelConfig.admits f h

/-- An accepted SET_CHANNEL_POLICY, one event: fields written, claims dropped, one recomputation (R138). -/
def State.takePolicy (s : State) (c : Chan) (f : ChannelConfig) : State :=
  State.settle s ((s.setCfg c f).dropReported (s.droppedByPolicy c f) .config)

/-- SET_CHANNEL_POLICY (R133, R134, R136 to R138). -/
def setChannelPolicyBody : Body := fun h ops s =>
  if s.holdsLock h then
    if ops.length = 6 then
      match policyOperands s ops with
      | none => (s, refuse .badValue)
      | some (c, f) =>
        if (s.ctl c).state.configurable then
          if s.parentAllowed c f.parent then
            let t := s.takePolicy c f
            (t, okReply (t.statusData c))
          else (s, refuse .badParent)
        else (s, refuse .channelActive)
    else (s, refuse .badLength)
  else (s, refuse .notHolder)

/-! ### SET_CHANNEL_FAULT (R139) -/

/-- The seven operands in range: the channel and the fields written into its old record (R139). -/
def faultOperands (s : State) : List Byte → Option (Chan × ChannelConfig)
  | [c, src, lim, base, thr, time, act] => do
    let c ← chanOperand c
    let src ← faultSourceOperand src
    let lim ← rangeOperand 0 7 lim
    let base ← rangeOperand 1 255 base
    let time ← rangeOperand 1 255 time
    let act ← actionOperand act
    some (c, { s.cfg c with
      faultSource := src, retryLimit := lim, backoffBase := base, detachThreshold := thr.toNat
      detachTime := time, detachAction := act })
  | _ => none

/-- A new retry limit reaches the controller: in LATCHED the count becomes the limit plus one (R109). -/
def State.applyRetryLimit (s : State) (c : Chan) : State :=
  if (s.ctl c).state = .latched then
    s.setCtl c { s.ctl c with retryCount := (s.cfg c).retryLimit + 1 }
  else s

/-- SET_CHANNEL_FAULT (R133, R134, R139). -/
def setChannelFaultBody : Body := fun h ops s =>
  if s.holdsLock h then
    if ops.length = 7 then
      match faultOperands s ops with
      | none => (s, refuse .badValue)
      | some (c, f) =>
        if (s.ctl c).state.configurable then
          let t := (s.setCfg c f).applyRetryLimit c
          (t, okReply (t.statusData c))
        else (s, refuse .channelActive)
    else (s, refuse .badLength)
  else (s, refuse .notHolder)

/-! ### SET_VIEW_ENTRY (R145) -/

/-- Entry `l` of host `g`'s view replaced. -/
def State.setViewEntry (s : State) (g : HostId) (l : Chan) (e : ViewEntry) : State :=
  { s with
    config := { s.config with views := put s.config.views g (put (look s.config.views g) l e) } }

/-- Check 4 of R145 fails: a changed mapping leaves a claim of host `g` behind. -/
def State.claimPresent (s : State) (g : HostId) (l : Chan) (new : Option Chan) : Bool :=
  match (s.viewEntry g l).physical with
  | some c => new ≠ some c && (s.claimOf c g).isSome
  | none => false

/-- Check 5 of R145 fails: another entry of host `g`'s view maps the new channel. -/
def State.duplicateMap (s : State) (g : HostId) (l : Chan) (new : Option Chan) : Bool :=
  new.isSome && new ≠ (s.viewEntry g l).physical &&
    allChans.any fun m => m ≠ l && (s.viewEntry g m).physical = new

/-- SET_VIEW_ENTRY: host, logical channel, physical channel, watch (R145). -/
def setViewEntryBody : Body := fun h ops s =>
  if s.holdsLock h then
    match ops with
    | [g, l, c, w] =>
      match fourOperand g, chanOperand l, optionalChanOperand c, flagOperand w with
      | some g, some l, some c, some w =>
        if s.claimPresent g l c then (s, refuse .claimPresent)
        else if s.duplicateMap g l c then (s, refuse .duplicateMap)
        else
          let e : ViewEntry := ⟨c, w⟩
          (s.setViewEntry g l e, okReply (viewEntryBytes e))
      | _, _, _, _ => (s, refuse .badValue)
    | _ => (s, refuse .badLength)
  else (s, refuse .notHolder)

/-! ### SET_RAIL (R27, R143) -/

/-- An accepted SET_RAIL: the record and the account's limit written, then the examination (R27, R143). -/
def State.takeSetRail (s : State) (r : Rail) (x : RailConfig) : State :=
  State.settle s
    (({ s with config := { s.config with rails := s.config.rails.setOf r x } } : State).setAccount r
      { s.account r with limit := x.limit })

/-- SET_RAIL: rail, limit in two bytes, loss qualification, restore qualification (R143). -/
def setRailBody : Body := fun h ops s =>
  if s.holdsLock h then
    match ops with
    | [r, l1, l0, loss, restore] =>
      match railOperand r, rangeOperand 0 15 loss, rangeOperand 1 255 restore with
      | some r, some loss, some restore =>
        let limit := (word16 l1 l0).toNat
        if limit ≤ 1000 then
          if limit < (s.account r).allocated then (s, refuse .overAllocated)
          else
            let t := s.takeSetRail r ⟨limit, loss, restore⟩
            (t, okReply (be16Of (t.account r).limit ++ be16Of (t.account r).allocated ++
              be16Of (t.account r).free))
        else (s, refuse .badValue)
      | _, _, _ => (s, refuse .badValue)
    | _ => (s, refuse .badLength)
  else (s, refuse .notHolder)

/-- SET_CHANNEL_POWER (R135). -/
def execSetChannelPower (h : HostId) (seq : Byte) (ops : List Byte) (s : State) :
    Host.Outcome State Fault Refusal :=
  .next (s.takeFrame h seq 0x30 ops setChannelPowerBody)

/-- SET_CHANNEL_POLICY (R136 to R138). -/
def execSetChannelPolicy (h : HostId) (seq : Byte) (ops : List Byte) (s : State) :
    Host.Outcome State Fault Refusal :=
  .next (s.takeFrame h seq 0x31 ops setChannelPolicyBody)

/-- SET_CHANNEL_FAULT (R139). -/
def execSetChannelFault (h : HostId) (seq : Byte) (ops : List Byte) (s : State) :
    Host.Outcome State Fault Refusal :=
  .next (s.takeFrame h seq 0x32 ops setChannelFaultBody)

/-- SET_VIEW_ENTRY (R145). -/
def execSetViewEntry (h : HostId) (seq : Byte) (ops : List Byte) (s : State) :
    Host.Outcome State Fault Refusal :=
  .next (s.takeFrame h seq 0x34 ops setViewEntryBody)

/-- SET_RAIL (R143). -/
def execSetRail (h : HostId) (seq : Byte) (ops : List Byte) (s : State) :
    Host.Outcome State Fault Refusal :=
  .next (s.takeFrame h seq 0x36 ops setRailBody)

end Sys2Proof.Machine
end

