-- ==== Sys2Proof/Machine/Transactions.lean ====
section
/-! DEFINITION. Transactions, and the frames the port itself answers: FRAME_ERROR, STARTING, BAD_COMMAND (R180, R182 to R185, R189). -/

namespace Sys2Proof.Machine

/-- The reset is still asserted: no transaction opens (R180, log 14). -/
def State.resetAsserted (s : State) : Bool := s.pm.store = .loading .inReset

/-- SEL_N of port `h` falls: a transaction opens, with no bytes received. While the reset is asserted
only the pin changes (R180). -/
def State.openTransaction (s : State) (h : HostId) : State :=
  let p := s.port h
  s.setPort h { p with
    selected := true
    receiver := if s.resetAsserted then .deselected else .request
    response := [] }

/-- SEL_N of port `h` rises: DESELECTED, an incomplete request discarded, the response bytes not kept
(R180, R182). -/
def State.closeTransaction (s : State) (h : HostId) : State :=
  s.setPort h { s.port h with selected := false, receiver := .deselected, response := [] }

/-- The body of the command that CMD names, or BAD_COMMAND's (R184 step 4, R189). -/
def commandBody (cmd : Byte) : Body :=
  match cmd.toNat with
  | 0x01 => identifyBody
  | 0x02 => openBody
  | 0x03 => closeBody
  | 0x04 => pingBody
  | 0x05 => lockBody
  | 0x06 => unlockBody
  | 0x10 => claimBody
  | 0x11 => releaseBody
  | 0x12 => channelStatusBody
  | 0x13 => railStatusBody
  | 0x14 => nextNoticeBody
  | 0x15 => clearFaultBody
  | 0x20 => holdBody
  | 0x21 => unholdBody
  | 0x22 => retireBody
  | 0x23 => restoreBody
  | 0x30 => setChannelPowerBody
  | 0x31 => setChannelPolicyBody
  | 0x32 => setChannelFaultBody
  | 0x33 => getChannelConfigBody
  | 0x34 => setViewEntryBody
  | 0x35 => getViewEntryBody
  | 0x36 => setRailBody
  | 0x37 => getRailBody
  | 0x38 => dropClaimsBody
  | 0x40 => commitBody
  | 0x41 => profileStatusBody
  | _ => badCommandBody

/-- A frame ended at a LEN byte above 12: STARTING while Profile Memory loads, otherwise FRAME_ERROR. A
LEN in range ends no frame (R183, R185; log 22). -/
def State.takeLenByte (s : State) (h : HostId) (seq len : Byte) : State :=
  if (s.port h).receiver = .request && 12 < len.toNat then
    s.answer h seq (refuse (if s.isLoading then .starting else .frameError))
  else s

/-- TRANSACTION_OPEN: SEL_N falls only where it was high (R180). -/
def execTransactionOpen (h : HostId) (s : State) : Host.Outcome State Fault Refusal :=
  .next (if (s.port h).selected then s else s.openTransaction h)

/-- TRANSACTION_END: SEL_N rises only where it was low (R180, R182). -/
def execTransactionEnd (h : HostId) (s : State) : Host.Outcome State Fault Refusal :=
  .next (if (s.port h).selected then s.closeTransaction h else s)

/-- FRAME_ERROR (R183). -/
def execFrameError (h : HostId) (seq _cmd len : Byte) (s : State) : Host.Outcome State Fault Refusal :=
  .next (s.takeLenByte h seq len)

/-- STARTING: a frame that ends while Profile Memory loads (R185). The frame of such a row that ends
later is taken as R184 gives (log 22). -/
def execStarting (h : HostId) (seq cmd : Byte) (ops : List Byte) (s : State) :
    Host.Outcome State Fault Refusal :=
  .next (s.takeFrame h seq cmd ops (commandBody cmd))

/-- BAD_COMMAND: a frame whose CMD names no command (R184). A CMD that names one is taken as that command
(log 22). -/
def execBadCommand (h : HostId) (seq cmd : Byte) (ops : List Byte) (s : State) :
    Host.Outcome State Fault Refusal :=
  .next (s.takeFrame h seq cmd ops (commandBody cmd))

end Sys2Proof.Machine
end

