-- ==== Sys2Proof/Machine/Dispatch.lean ====
section
/-! DEFINITION. The meaning of every command: one arm per constructor of Instr. -/

namespace Sys2Proof.Machine

def exec (i : Instr) (s : State) : Host.Outcome State Fault Refusal :=
  match i with
  | .powerOnReset => Sys2Proof.Machine.execPowerOnReset s
  | .resetN => Sys2Proof.Machine.execResetN s
  | .resetEnd => Sys2Proof.Machine.execResetEnd s
  | .loadCompletion => Sys2Proof.Machine.execLoadCompletion s
  | .transactionOpen h => Sys2Proof.Machine.execTransactionOpen h s
  | .transactionEnd h => Sys2Proof.Machine.execTransactionEnd h s
  | .frameError h seq cmd len => Sys2Proof.Machine.execFrameError h seq cmd len s
  | .starting h seq cmd ops => Sys2Proof.Machine.execStarting h seq cmd ops s
  | .badCommand h seq cmd ops => Sys2Proof.Machine.execBadCommand h seq cmd ops s
  | .identify h seq ops => Sys2Proof.Machine.execIdentify h seq ops s
  | .openSession h seq ops => Sys2Proof.Machine.execOpen h seq ops s
  | .closeSession h seq ops => Sys2Proof.Machine.execClose h seq ops s
  | .ping h seq ops => Sys2Proof.Machine.execPing h seq ops s
  | .lock h seq ops => Sys2Proof.Machine.execLock h seq ops s
  | .unlock h seq ops => Sys2Proof.Machine.execUnlock h seq ops s
  | .claim h seq ops => Sys2Proof.Machine.execClaim h seq ops s
  | .release h seq ops => Sys2Proof.Machine.execRelease h seq ops s
  | .channelStatus h seq ops => Sys2Proof.Machine.execChannelStatus h seq ops s
  | .railStatus h seq ops => Sys2Proof.Machine.execRailStatus h seq ops s
  | .nextNotice h seq ops => Sys2Proof.Machine.execNextNotice h seq ops s
  | .clearFault h seq ops => Sys2Proof.Machine.execClearFault h seq ops s
  | .hold h seq ops => Sys2Proof.Machine.execHold h seq ops s
  | .unhold h seq ops => Sys2Proof.Machine.execUnhold h seq ops s
  | .retire h seq ops => Sys2Proof.Machine.execRetire h seq ops s
  | .restore h seq ops => Sys2Proof.Machine.execRestore h seq ops s
  | .setChannelPower h seq ops => Sys2Proof.Machine.execSetChannelPower h seq ops s
  | .setChannelPolicy h seq ops => Sys2Proof.Machine.execSetChannelPolicy h seq ops s
  | .setChannelFault h seq ops => Sys2Proof.Machine.execSetChannelFault h seq ops s
  | .getChannelConfig h seq ops => Sys2Proof.Machine.execGetChannelConfig h seq ops s
  | .setViewEntry h seq ops => Sys2Proof.Machine.execSetViewEntry h seq ops s
  | .getViewEntry h seq ops => Sys2Proof.Machine.execGetViewEntry h seq ops s
  | .setRail h seq ops => Sys2Proof.Machine.execSetRail h seq ops s
  | .getRail h seq ops => Sys2Proof.Machine.execGetRail h seq ops s
  | .dropClaims h seq ops => Sys2Proof.Machine.execDropClaims h seq ops s
  | .commit h seq ops => Sys2Proof.Machine.execCommit h seq ops s
  | .profileStatus h seq ops => Sys2Proof.Machine.execProfileStatus h seq ops s
  | .commitCompletion verified => Sys2Proof.Machine.execCommitCompletion verified s
  | .lapse h => Sys2Proof.Machine.execLapse h s
  | .senseSample sample => Sys2Proof.Machine.execSenseSample sample s
  | .tripEvent c => Sys2Proof.Machine.execTripEvent c s
  | .enableEvent k => Sys2Proof.Machine.execEnableEvent k s
  | .detachEvent c => Sys2Proof.Machine.execDetachEvent c s
  | .blankingExpiry c => Sys2Proof.Machine.execBlankingExpiry c s
  | .softStartExpiry c => Sys2Proof.Machine.execSoftStartExpiry c s
  | .stableExpiry c => Sys2Proof.Machine.execStableExpiry c s
  | .dischargeExpiry c => Sys2Proof.Machine.execDischargeExpiry c s
  | .backoffExpiry c => Sys2Proof.Machine.execBackoffExpiry c s
  | .restoreExpiry r => Sys2Proof.Machine.execRestoreExpiry r s
  | .lossExpiry r => Sys2Proof.Machine.execLossExpiry r s
  | .deadTimeExpiry c => Sys2Proof.Machine.execDeadTimeExpiry c s

end Sys2Proof.Machine
end

