-- ==== Sys2Proof/Safety.lean ====
section
/-! DEFINITION. The terms in which claims about the OJ-1604 are made: the laws the manual states of the whole part, request frames as the sender sees them, and what an event leaves alone. -/

namespace Sys2Proof.Machine

/-! ### Request frames and their answers (R180 to R187) -/

/-- A request frame that has ended: its port, SEQ, CMD and operands (R181). -/
structure Request where
  port : HostId
  seq : Byte
  cmd : Byte
  operands : List Byte
  deriving DecidableEq, Repr

/-- The request frame that a row carries, with the code of R189. -/
def requestOf : Instr → Option Request
  | .starting h seq cmd ops | .badCommand h seq cmd ops => some ⟨h, seq, cmd, ops⟩
  | .identify h seq ops => some ⟨h, seq, 0x01, ops⟩
  | .openSession h seq ops => some ⟨h, seq, 0x02, ops⟩
  | .closeSession h seq ops => some ⟨h, seq, 0x03, ops⟩
  | .ping h seq ops => some ⟨h, seq, 0x04, ops⟩
  | .lock h seq ops => some ⟨h, seq, 0x05, ops⟩
  | .unlock h seq ops => some ⟨h, seq, 0x06, ops⟩
  | .claim h seq ops => some ⟨h, seq, 0x10, ops⟩
  | .release h seq ops => some ⟨h, seq, 0x11, ops⟩
  | .channelStatus h seq ops => some ⟨h, seq, 0x12, ops⟩
  | .railStatus h seq ops => some ⟨h, seq, 0x13, ops⟩
  | .nextNotice h seq ops => some ⟨h, seq, 0x14, ops⟩
  | .clearFault h seq ops => some ⟨h, seq, 0x15, ops⟩
  | .hold h seq ops => some ⟨h, seq, 0x20, ops⟩
  | .unhold h seq ops => some ⟨h, seq, 0x21, ops⟩
  | .retire h seq ops => some ⟨h, seq, 0x22, ops⟩
  | .restore h seq ops => some ⟨h, seq, 0x23, ops⟩
  | .setChannelPower h seq ops => some ⟨h, seq, 0x30, ops⟩
  | .setChannelPolicy h seq ops => some ⟨h, seq, 0x31, ops⟩
  | .setChannelFault h seq ops => some ⟨h, seq, 0x32, ops⟩
  | .getChannelConfig h seq ops => some ⟨h, seq, 0x33, ops⟩
  | .setViewEntry h seq ops => some ⟨h, seq, 0x34, ops⟩
  | .getViewEntry h seq ops => some ⟨h, seq, 0x35, ops⟩
  | .setRail h seq ops => some ⟨h, seq, 0x36, ops⟩
  | .getRail h seq ops => some ⟨h, seq, 0x37, ops⟩
  | .dropClaims h seq ops => some ⟨h, seq, 0x38, ops⟩
  | .commit h seq ops => some ⟨h, seq, 0x40, ops⟩
  | .profileStatus h seq ops => some ⟨h, seq, 0x41, ops⟩
  | .powerOnReset | .resetN | .resetEnd | .loadCompletion | .transactionOpen _ | .transactionEnd _
  | .frameError _ _ _ _ | .commitCompletion _ | .lapse _ | .senseSample _ | .tripEvent _
  | .enableEvent _ | .detachEvent _ | .blankingExpiry _ | .softStartExpiry _ | .stableExpiry _
  | .dischargeExpiry _ | .backoffExpiry _ | .restoreExpiry _ | .lossExpiry _
  | .deadTimeExpiry _ => none

/-- The frame gets as far as step 3 of R184: a transaction is open, the load is over, LEN is in range,
and the replay store holds no entry with its SEQ. -/
def Request.isNew (q : Request) (s : State) : Bool :=
  !s.isLoading && (s.port q.port).receiver = .request && q.operands.length ≤ 12 &&
    (s.port q.port).replay.all fun e => q.seq = 0 || e.seq ≠ q.seq

/-- The frame is new and its host's session is OPEN, which admits every command (R149). -/
def Request.isTaken (q : Request) (s : State) : Bool :=
  q.isNew s && (s.port q.port).session = .opened

/-- The frame's SEQ stands in the replay store with entry `e` (step 2 of R184). -/
def Request.meets (q : Request) (s : State) (e : ReplayEntry) : Bool :=
  !s.isLoading && (s.port q.port).receiver = .request && q.operands.length ≤ 12 &&
    (s.port q.port).replay = some e && q.seq ≠ 0 && e.seq = q.seq

/-- The bytes of a response: RESULT, SEQ, RLEN, data (R194). -/
def responseBytes (code seq : Byte) (data : List Byte) : List Byte :=
  [code, seq, BitVec.ofNat 8 data.length] ++ data

/-- The port once its receiver gives a response (R180). -/
def Port.gives (p : Port) (frame : List Byte) : Port :=
  { p with receiver := .response, response := frame }

/-- The port with a running lease of an OPEN session restarted (R153). -/
def Port.renewed (p : Port) : Port :=
  if p.session = .opened ∧ p.leaseTimer.isSome then
    { p with leaseTimer := if p.leasePeriod = 0 then none else some (p.leasePeriod * 100) }
  else p

/-- The port with a frame and its response in the replay store, if SEQ is not 0 (R186). -/
def Port.remembers (p : Port) (q : Request) (frame : List Byte) : Port :=
  if q.seq = 0 then p else { p with replay := some ⟨q.seq, q.cmd, q.operands, frame⟩ }

/-- The state with the frame answered by the port alone: nothing renewed, nothing stored. -/
def State.turnedAway (s : State) (q : Request) (code : Byte) : State :=
  s.setPort q.port ((s.port q.port).gives (responseBytes code q.seq []))

/-- The state with the frame executed and answered: lease renewed, frame stored, response given. -/
def State.replied (s : State) (q : Request) (code : Byte) (data : List Byte) : State :=
  s.setPort q.port
    (((s.port q.port).renewed.remembers q (responseBytes code q.seq data)).gives
      (responseBytes code q.seq data))

/-- The commands that need the configuration lock (R163). -/
def lockCommands : List Byte :=
  [0x20, 0x21, 0x22, 0x23, 0x30, 0x31, 0x32, 0x34, 0x36, 0x38, 0x40]

/-- A channel operand of one byte. -/
def chanByte (c : Chan) : Byte := BitVec.ofNat 8 c.val

/-- A host operand of one byte. -/
def hostByte (h : HostId) : Byte := BitVec.ofNat 8 h.val

/-! ### What an event leaves alone -/

/-- What the controllers, the Claim Arbiter's hand-ons and the Budget Arbiter never touch: Profile Memory,
time, configuration, lock, ports, claims, XF levels, enable lines, rail monitors, waiting commands. -/
structure KeepsTables (s t : State) : Prop where
  pm : t.pm = s.pm
  deviceTime : t.deviceTime = s.deviceTime
  config : t.config = s.config
  lock : t.lock = s.lock
  ports : t.ports = s.ports
  claims : t.claims = s.claims
  xf : t.xf = s.xf
  enables : t.enables = s.enables
  rails : t.rails = s.rails
  pending : t.pending = s.pending

/-- A record with its lost-after flag clear. -/
def Notice.unflagged (n : Notice) : Notice := { n with lostAfter := false }

/-- The notice queues only grow at their tails, and only those of OPEN hosts; a record keeps every field
but its lost-after flag (R170, R172). -/
def QueuesGrow (s t : State) : Prop :=
  ∀ g, ∃ more, (t.noticesOf g).map Notice.unflagged = (s.noticesOf g).map Notice.unflagged ++ more ∧
    ((s.port g).session ≠ .opened → t.noticesOf g = s.noticesOf g)

/-- Host `g` finds the record next in its queue, behind those it had, if it had room (R172, R178). -/
def NextRecord (s t : State) (g : HostId) (n : Notice) : Prop :=
  (s.noticesOf g).length < 32 →
    ∃ more, (t.noticesOf g).map Notice.unflagged =
      (s.noticesOf g).map Notice.unflagged ++ n :: more

/-- The record of kind, cause and detail `x` that a controller gives host `g` for channel `c`, which stands
in state `k` (R166, R170). -/
def channelRecord (s : State) (g : HostId) (c : Chan) (x : Report) (k : ChannelState) : Notice :=
  { report := x, logical := s.logicalOf g c, newState := some k, tag := s.tagOf g c
    time := s.deviceTime, lostAfter := false }

/-- The channel has no charge on either rail. -/
def Uncharged (s : State) (c : Chan) : Prop := ∀ r, ∀ x ∈ (s.account r).charges, x.chan ≠ c

/-- What a fault of `c` in SOFTSTART or ON leaves, examinations not yet made (R100 to R103). -/
structure FaultTaken (s u : State) (c : Chan) (cause : FaultCause) : Prop where
  count : (u.ctl c).retryCount = (s.ctl c).retryCount + 1
  outcome : (u.ctl c).state =
    if (s.ctl c).retryCount + 1 ≤ (s.cfg c).retryLimit then .retryWait else .latched
  lastFault : (u.ctl c).lastFault = some cause
  sub : (u.ctl c).sub = .noSub
  chargedRail : (u.ctl c).chargedRail = none
  softStart : (u.ctl c).softStart = none
  blanking : (u.ctl c).blanking = none
  stable : (u.ctl c).stable = none
  discharge : (u.ctl c).discharge =
    if (s.cfg c).dischargeTime = 0 then none else some (s.cfg c).dischargeTime
  backoff : (u.ctl c).backoff =
    if (s.ctl c).retryCount + 1 ≤ (s.cfg c).retryLimit then
      some ((s.cfg c).backoffBase * 2 ^ (s.ctl c).retryCount * 10)
    else none
  disarmed : (u.sen c).detachArmed = false ∧ (u.sen c).powerGood = false ∧ (u.sen c).tripRun = 0
  uncharged : Uncharged u c
  cascade : (s.ctl c).state = .isOn →
    ∀ k, (s.cfg k).parent = some c → (u.ctl k).state.charged = false
  told : ∀ g, s.receives g c = true → NextRecord s u g
    (channelRecord s g c
      (.faulted cause ((s.ctl c).retryCount + 1) ((s.cfg c).retryLimit < (s.ctl c).retryCount + 1))
      (u.ctl c).state)
  kept : KeepsTables s u
  notices : QueuesGrow s u

/-- What a stop of a charged channel `c` leaves (R65, R67, R84). -/
structure StopTaken (s u : State) (c : Chan) (cause : StopCause) : Prop where
  state : (u.ctl c).state =
    if (s.cfg c).dischargeTime ≠ 0 then .stopping
    else if (s.ctl c).demand = true ∧ (s.cfg c).admin = .enabled then .queued else .off
  chargedRail : (u.ctl c).chargedRail = none
  sub : (u.ctl c).sub = .noSub
  softStart : (u.ctl c).softStart = none
  blanking : (u.ctl c).blanking = none
  stable : (u.ctl c).stable = none
  deadTime : (u.ctl c).deadTime = none
  discharge : (u.ctl c).discharge =
    if (s.cfg c).dischargeTime = 0 then none else some (s.cfg c).dischargeTime
  faultKept : (u.ctl c).lastFault = (s.ctl c).lastFault
  countKept : (u.ctl c).state ≠ .off → (u.ctl c).retryCount = (s.ctl c).retryCount
  disarmed : (u.sen c).detachArmed = false ∧ (u.sen c).powerGood = false ∧ (u.sen c).tripRun = 0
  uncharged : Uncharged u c
  cascade : (s.ctl c).state = .isOn →
    ∀ k, (s.cfg k).parent = some c → (u.ctl k).state.charged = false
  told : ∀ g, s.receives g c = true →
    NextRecord s u g (channelRecord s g c (.stopped cause (s.ctl c).chargedRail) (u.ctl c).state)
  kept : KeepsTables s u
  notices : QueuesGrow s u

/-! ### Trees, candidates and orders -/

/-- The channel `n` links above `k` (R77). -/
def State.above (s : State) : Nat → Chan → Option Chan
  | 0, k => some k
  | n + 1, k =>
    match (s.cfg k).parent with
    | some p => s.above n p
    | none => none

/-- Rail `r` is the target of channel `c`: the first rail of its feed that is UP (R33). -/
def IsTarget (s : State) (c : Chan) (r : Rail) : Prop :=
  (s.rail r).state = .up ∧
    match (s.cfg c).feed with
    | .aOnly => r = .a
    | .bOnly => r = .b
    | .aThenB => r = .a ∨ (s.rail .a).state ≠ .up
    | .bThenA => r = .b ∨ (s.rail .b).state ≠ .up

/-- The channel may be granted on rail `r`: its parent is NONE or ON and its target is `r` (R33, R34). -/
def IsEligible (s : State) (c : Chan) (r : Rail) : Prop :=
  (∀ p, (s.cfg c).parent = some p → (s.ctl p).state = .isOn) ∧ IsTarget s c r

/-- Rail `r`'s candidate: the first entry of the queue that is eligible for it (R36). -/
def IsCandidate (s : State) (r : Rail) (e : QueueEntry) : Prop :=
  ∃ before after, s.queue = before ++ e :: after ∧ IsEligible s e.chan r ∧
    ∀ x ∈ before, ¬ IsEligible s x.chan r

/-- From `s` to `t` by `n` grants, each of a rail's candidate once the victims it needs are shed; which rail
comes next may cost a draw (R37, R38, R43; log 7). -/
inductive Examined : Nat → State → State → Prop where
  | nothing (s : State) : Examined 0 s s
  | draw {n : Nat} {s t : State} (d : Nat) : Examined n { s with draws := d } t → Examined n s t
  | grant {n : Nat} {s t : State} (r : Rail) (e : QueueEntry) (v : List Charge) :
      IsCandidate s r e → s.victims r e.priority (s.cfg e.chan).classAU = some v →
      Examined n ((s.shed v).grant e.chan r) t → Examined (n + 1) s t

/-- From `s` to `t` by these events of the Sense Unit in this order, each whole with its examinations; the
free order may cost draws (R104, R128; log 7). -/
inductive TakenInTurn : List SenseEvent → State → State → Prop where
  | nothing (s : State) : TakenInTurn [] s s
  | next {e : SenseEvent} {l : List SenseEvent} {s t : State} (d : Nat) :
      TakenInTurn l (State.settle { s with draws := d }
        (State.takeSenseEvent { s with draws := d } e)) t → TakenInTurn (e :: l) s t

/-! ### The laws of the manual, over every state of the part -/

/-- While Profile Memory loads every block other than Profile Memory and the port receivers stands at its
reset value (R24, R48, R76, R112, R130, R165, R179, R199; the values of log 12 among them). -/
def LoadingLaw (s : State) : Prop :=
  s.isLoading = true →
    s = { State.reset with pm := s.pm, ports := s.ports, draws := s.draws, pending := s.pending } ∧
    ∀ h, s.port h = { Port.atReset (s.port h).selected with
      receiver := (s.port h).receiver, response := (s.port h).response }

/-- A notice queue holds at most 32 records and is empty whenever its host's session is not OPEN (R172). -/
def NoticeLaw (s : State) : Prop :=
  ∀ h, (s.noticesOf h).length ≤ 32 ∧ ((s.port h).session ≠ .opened → s.noticesOf h = [])

/-- The lock's holder has an OPEN session with a non-zero lease (R161). -/
def LockLaw (s : State) : Prop :=
  ∀ h, s.lock = some h → (s.port h).session = .opened ∧ (s.port h).leasePeriod ≠ 0

/-- The charges of a rail never exceed its limit (R25). -/
def BudgetLaw (s : State) : Prop := ∀ r, (s.account r).allocated ≤ (s.account r).limit

/-- Each account's limit is that of the rail's configuration record (R25, R27). -/
def LimitLaw (s : State) : Prop := ∀ r, (s.account r).limit = (s.config.rails.of r).limit

/-- The parent links of a configuration are a forest with no chain of more than 4 channels, in which no
channel names a RETIRED channel as parent: every channel has a depth from 1, for a root, to 4 (R77). -/
def ForestLaw (x : Configuration) : Prop :=
  ∃ depth : Chan → Nat, ∀ c,
    match (look x.channels c).parent with
    | none => depth c = 1
    | some p => depth c = depth p + 1 ∧ depth c ≤ 4 ∧ (look x.channels p).admin ≠ .retired

/-- A configuration keeps the ranges and the three cross-field conditions of R131, the ranges of R143 and
the injective views of R144. -/
def RecordLaw (x : Configuration) : Prop :=
  (∀ c : Chan, let f := look x.channels c
    f.claimants ≠ 0 ∧ f.floor ≤ 7 ∧ 1 ≤ f.classAU ∧ f.classAU ≤ 200 ∧
    f.classAU ≤ f.tripThreshold ∧ f.tripThreshold ≤ 250 ∧ f.tripFilter ≤ 15 ∧
    1 ≤ f.softStart ∧ f.softStart ≤ 255 ∧ f.blanking ≤ f.softStart ∧ f.dischargeTime ≤ 255 ∧
    1 ≤ f.deadTime ∧ f.deadTime ≤ 50 ∧ f.retryLimit ≤ 7 ∧ 1 ≤ f.backoffBase ∧ f.backoffBase ≤ 255 ∧
    f.detachThreshold ≤ 255 ∧ 1 ≤ f.detachTime ∧ f.detachTime ≤ 255) ∧
  (∀ r, let f := x.rails.of r
    f.limit ≤ 1000 ∧ f.lossQual ≤ 15 ∧ 1 ≤ f.restoreQual ∧ f.restoreQual ≤ 255) ∧
  (∀ (h : HostId) (l m c : Chan), (look (look x.views h) l).physical = some c →
    (look (look x.views h) m).physical = some c → l = m)

/-- The records and the forest together, as the manual keeps them of every configuration (R131, R77, R144). -/
def ConfigurationLaw (x : Configuration) : Prop := RecordLaw x ∧ ForestLaw x

/-- A law of configurations holds of every configuration the part holds: the live one, the image of each
slot and the snapshot of a commit (R147, R198). -/
def State.everyConfiguration (s : State) (law : Configuration → Prop) : Prop :=
  law s.config ∧ (∀ i x, (s.pm.slot i).image = some x → law x) ∧
    ∀ job, s.pm.store = .writing job → law job.snapshot

/-- A claim is held only on a channel that its host's view maps, not RETIRED, with policy ANY or ALL and
the host in its claimant set; it is ACTIVE in an OPEN session and ORPHANED in a LAPSED one (R1, R2). -/
def ClaimLaw (s : State) : Prop :=
  ∀ c h x, s.claimOf c h = some x →
    (s.cfg c).admin ≠ .retired ∧ ((s.cfg c).policy = .any ∨ (s.cfg c).policy = .all) ∧
    (s.cfg c).claimants.getLsbD h.val = true ∧ (∃ l, (s.viewEntry h l).physical = some c) ∧
    x.priority ≤ 7 ∧
    (s.port h).session = (match x.state with | .active => .opened | .orphaned => .lapsed)

/-- A channel has an entry exactly when its state is QUEUED, and one at most; entries stand in the order
of R29, with numbers already given, each to one entry (R28 to R30). -/
def QueueLaw (s : State) : Prop :=
  (∀ c, (s.ctl c).state = .queued ↔ ∃ e ∈ s.queue, e.chan = c) ∧
  (s.queue.map QueueEntry.chan).Nodup ∧
  (s.queue.map QueueEntry.number).Nodup ∧
  s.queue.Pairwise (fun x y => y.priority < x.priority ∨ (x.priority = y.priority ∧ x.number < y.number)) ∧
  ∀ e ∈ s.queue, e.number < s.admissionCounter

/-- A channel is charged exactly when its state is SOFTSTART, ON or SWITCHOVER, then once, to its charged
rail, which is UP or FALLING, under its grant number; a list stands in the order of grant numbers, all of
them already given (R25, R26, R38). -/
def ChargeLaw (s : State) : Prop :=
  (∀ c, (s.ctl c).state.charged = true ↔ ∃ r, ∃ x ∈ (s.account r).charges, x.chan = c) ∧
  (∀ r, ∀ x ∈ (s.account r).charges,
    (s.ctl x.chan).chargedRail = some r ∧ (s.ctl x.chan).grantNumber = x.grantNumber ∧
    ((s.rail r).state = .up ∨ (s.rail r).state = .falling) ∧ x.grantNumber < s.grantCounter) ∧
  (∀ r, (s.account r).charges.Pairwise fun x y => x.grantNumber < y.grantNumber) ∧
  ((s.accounts.railA.charges ++ s.accounts.railB.charges).map Charge.chan).Nodup ∧
  ((s.accounts.railA.charges ++ s.accounts.railB.charges).map Charge.grantNumber).Nodup

/-- The queue, the accounts and the controllers agree (R26, R28). -/
def AllocationLaw (s : State) : Prop := QueueLaw s ∧ ChargeLaw s

/-- A LATCHED channel's retry count equals its retry limit plus one; in every other state the count does
not exceed the limit, and in OFF and RETIRED it is 0 (R54, R70, R101, R109). -/
def RetryLaw (s : State) : Prop :=
  ∀ c,
    match (s.ctl c).state with
    | .latched => (s.ctl c).retryCount = (s.cfg c).retryLimit + 1
    | .off | .retired => (s.ctl c).retryCount = 0
    | .queued | .softstart | .isOn | .switchover | .stopping | .retryWait =>
      (s.ctl c).retryCount ≤ (s.cfg c).retryLimit

/-- Between events the Claim Arbiter's five values are those of the formulas, and every controller's demand
item is its channel's effective demand (R10 to R16, R49). -/
def DemandLaw (s : State) : Prop :=
  ∀ c, s.dem c = s.demandNow c ∧ (s.ctl c).demand = (s.dem c).effective

/-- Profile Memory's items agree: a current slot is valid and holds the current generation; a slot chosen for
the load is valid; during WRITING the target is erased and invalid, is not the current slot, and the new
generation is the current one plus 1 (R198, R199, R201, R203). -/
def ProfileLaw (s : State) : Prop :=
  (s.pm.currentSlot = none ↔ s.pm.currentGeneration = 0) ∧
  s.pm.currentGeneration ≠ emptyGeneration ∧
  (∀ i, s.pm.currentSlot = some i →
    (s.pm.slot i).isValid = true ∧ (s.pm.slot i).generation = s.pm.currentGeneration ∧
      s.pm.valid i = true) ∧
  (∀ i, s.pm.store = .loading (.chosen (some i)) → (s.pm.slot i).isValid = true ∧ s.pm.valid i = true) ∧
  ∀ job, s.pm.store = .writing job →
    s.pm.slot job.target = Slot.erased ∧ s.pm.valid job.target = false ∧
      s.pm.currentSlot ≠ some job.target ∧ job.generation = s.pm.currentGeneration + 1 ∧
      s.pm.currentGeneration ≠ lastGeneration

/-- A channel that waits, runs or is to be retried is ENABLED and has effective demand, a channel in OFF has
effective demand only if it is not ENABLED, and a waiting entry carries the effective priority in force (R28,
R32, R54 to R56, R68, R105). -/
def WantedLaw (s : State) : Prop :=
  (∀ c, (s.ctl c).state = .queued ∨ (s.ctl c).state = .retryWait ∨ (s.ctl c).state.charged = true →
    (s.cfg c).admin = .enabled ∧ (s.dem c).effective = true) ∧
  (∀ c, (s.ctl c).state = .off → (s.cfg c).admin = .enabled → (s.dem c).effective = false) ∧
  ∀ e ∈ s.queue, e.priority = (s.dem e.chan).priority

/-- A channel in SOFTSTART, ON or SWITCHOVER has no parent or has a parent in state ON (R82). -/
def ParentLaw (s : State) : Prop :=
  ∀ c p, (s.ctl c).state.charged = true → (s.cfg c).parent = some p → (s.ctl p).state = .isOn

end Sys2Proof.Machine
end

