-- ==== Sys2Proof/WellFormed.lean ====
section
/-! DEFINITION. Which commands can arrive at all: the frame limits of R181, R183 and R189. -/

namespace Sys2Proof

/-- The largest LEN of a request frame (R181). -/
def maxOperands : Nat := 12

/-- CMD is a command code of the catalogue (R189). -/
def isCommandCode (cmd : Byte) : Bool :=
  [0x01, 0x02, 0x03, 0x04, 0x05, 0x06, 0x10, 0x11, 0x12, 0x13, 0x14, 0x15, 0x20, 0x21, 0x22, 0x23,
    0x30, 0x31, 0x32, 0x33, 0x34, 0x35, 0x36, 0x37, 0x38, 0x40, 0x41].contains cmd.toNat

/-- The operand bytes fit a request frame: LEN 0 to 12 (R181). -/
def operandsFit (ops : List Byte) : Bool := ops.length ≤ maxOperands

/-- A command as a sender can give it: a frame row carries at most 12 operand bytes (R181), a
FRAME_ERROR row a LEN above 12 (R183), a BAD_COMMAND row a CMD that is no command code (R184). -/
def Instr.wellFormed : Instr → Bool
  | .powerOnReset | .resetN | .resetEnd | .loadCompletion => true
  | .transactionOpen _ | .transactionEnd _ => true
  | .frameError _ _ _ len => maxOperands < len.toNat
  | .starting _ _ _ ops => operandsFit ops
  | .badCommand _ _ cmd ops => !isCommandCode cmd && operandsFit ops
  | .identify _ _ ops | .openSession _ _ ops | .closeSession _ _ ops | .ping _ _ ops
  | .lock _ _ ops | .unlock _ _ ops | .claim _ _ ops | .release _ _ ops
  | .channelStatus _ _ ops | .railStatus _ _ ops | .nextNotice _ _ ops | .clearFault _ _ ops
  | .hold _ _ ops | .unhold _ _ ops | .retire _ _ ops | .restore _ _ ops
  | .setChannelPower _ _ ops | .setChannelPolicy _ _ ops | .setChannelFault _ _ ops
  | .getChannelConfig _ _ ops | .setViewEntry _ _ ops | .getViewEntry _ _ ops
  | .setRail _ _ ops | .getRail _ _ ops | .dropClaims _ _ ops | .commit _ _ ops
  | .profileStatus _ _ ops => operandsFit ops
  | .commitCompletion _ | .lapse _ | .senseSample _ => true
  | .tripEvent _ | .enableEvent _ | .detachEvent _ => true
  | .blankingExpiry _ | .softStartExpiry _ | .stableExpiry _ | .dischargeExpiry _
  | .backoffExpiry _ | .deadTimeExpiry _ => true
  | .restoreExpiry _ | .lossExpiry _ => true

end Sys2Proof
end

