-- ==== Sys2Proof/Certificates/Slice0/Obligations.lean ====
section
/-! DEFINITION. The statements for the provers, in the order of OBLIGATIONS.json. -/

open Sys2Proof Sys2Proof.Machine

/-! ### The step -/

/-- The command at the front of the queue is run on the state with the queue's rest. -/
def Obligations.StepRunsFrontCommand : Prop :=
  ∀ (c : Instr) (rest : List Instr) (s : State), s.pending = c :: rest →
    step s = exec c { s with pending := rest }

/-- On an empty queue with nothing due, a millisecond passes: device time counts, and every running timer,
lease and commit with it (00_scope.md, Time; R51, R148). That this is what an idle step does is the
model's choice (log 2). -/
def Obligations.IdleStepCountsAMillisecond : Prop :=
  ∀ s : State, s.pending = [] → s.isLoading = false → s.dueEvents = [] →
    ∃ t, step s = .next t ∧ t.deviceTime = s.deviceTime + 1 ∧
      (∀ c, t.ctl c = { s.ctl c with
        softStart := (s.ctl c).softStart.map (· - 1), blanking := (s.ctl c).blanking.map (· - 1)
        stable := (s.ctl c).stable.map (· - 1), discharge := (s.ctl c).discharge.map (· - 1)
        backoff := (s.ctl c).backoff.map (· - 1), deadTime := (s.ctl c).deadTime.map (· - 1) }) ∧
      (∀ r, t.rail r = { s.rail r with
        restoreTimer := (s.rail r).restoreTimer.map (· - 1)
        lossTimer := (s.rail r).lossTimer.map (· - 1) }) ∧
      (∀ h, t.port h = { s.port h with leaseTimer := (s.port h).leaseTimer.map (· - 1) }) ∧
      (∀ job, s.pm.store = .writing job → t.pm.store = .writing { job with age := job.age + 1 }) ∧
      (s.pm.store = .idle → t.pm.store = .idle) ∧
      t = { s with
        deviceTime := t.deviceTime, channels := t.channels, rails := t.rails, ports := t.ports
        pm := { s.pm with store := t.pm.store } }

/-! ### Resets and start-up -/

/-- POWER_ON_RESET and RESET_N leave every block at the reset value its chapter gives, keep both slots, and
record the cause; a RESET_N within an asserted power-on reset is part of it and changes nothing. That the
waiting commands survive is the model's choice (log 21) (R24, R48, R76, R91, R112, R130, R165, R179, R180, R199). -/
def Obligations.ResetsLeaveTheResetValues : Prop :=
  (∀ s : State, s.inPowerOnReset = true → exec .resetN s = .next s) ∧
  ∀ (i : Instr) (cause : ResetCause) (s : State),
    (i = .powerOnReset ∧ cause = .powerOn ∨
      i = .resetN ∧ cause = .pin ∧ s.inPowerOnReset = false) →
    ∃ t, exec i s = .next t ∧
      t.pm.store = .loading .inReset ∧ t.pm.resetCause = cause ∧
      t.pm.slot0 = s.pm.slot0 ∧ t.pm.slot1 = s.pm.slot1 ∧
      (∀ c h, t.claimOf c h = none) ∧
      (∀ c, (t.dem c).own = false ∧ (t.dem c).effective = false ∧ (t.dem c).contributing = false ∧
        (t.dem c).priority = (t.cfg c).floor) ∧
      t.queue = [] ∧ t.admissionCounter = 0 ∧ t.grantCounter = 0 ∧
      (∀ r, (t.account r).charges = []) ∧
      (∀ c, (t.ctl c).retryCount = 0 ∧ (t.ctl c).lastFault = none ∧ (t.ctl c).chargedRail = none ∧
        (t.ctl c).grantNumber = 0 ∧ (t.ctl c).demand = false ∧ (t.ctl c).sub = .noSub ∧
        (t.ctl c).softStart = none ∧ (t.ctl c).blanking = none ∧ (t.ctl c).stable = none ∧
        (t.ctl c).discharge = none ∧ (t.ctl c).backoff = none ∧ (t.ctl c).deadTime = none ∧
        t.dischargeSwitch c = true ∧ ∀ r, t.railSwitch c r = false) ∧
      (∀ c, (t.sen c).tripRun = 0 ∧ (t.sen c).powerGood = false ∧ (t.sen c).detachArmed = false ∧
        (t.sen c).detachRun = 0) ∧
      (∀ k, look t.xf k = false ∧ (t.line k).qualified = false) ∧
      (∀ r, (t.rail r).state = .down ∧ (t.rail r).good = false ∧ (t.rail r).restoreTimer = none ∧
        (t.rail r).lossTimer = none) ∧
      (∀ h, (t.port h).session = .closed ∧ (t.port h).leaseTimer = none ∧
        (t.port h).leasePeriod = 0 ∧ (t.port h).orphanMode = .keep ∧ (t.port h).attention = false ∧
        (t.port h).replay = none ∧ (t.port h).receiver = .deselected ∧ t.noticesOf h = [] ∧
        t.attention h = false) ∧
      t.lock = none ∧ t.pending = s.pending

/-- RESET_END reads both slots and chooses the image: the only valid slot, the one with the larger
generation, slot 0 when the two are equal, or the defaults (R199). -/
def Obligations.ResetEndChoosesTheNewestValidSlot : Prop :=
  ∀ s : State, s.pm.store = .loading .inReset →
    ∃ choice, exec .resetEnd s = .next { s with
        pm := { s.pm with
          valid0 := s.pm.slot0.isValid, valid1 := s.pm.slot1.isValid
          store := .loading (.chosen choice) } } ∧
      (s.pm.slot0.isValid = true → s.pm.slot1.isValid = false → choice = some .slot0) ∧
      (s.pm.slot0.isValid = false → s.pm.slot1.isValid = true → choice = some .slot1) ∧
      (s.pm.slot0.isValid = true → s.pm.slot1.isValid = true →
        choice = if s.pm.slot0.generation.toNat < s.pm.slot1.generation.toNat then some .slot1
          else some .slot0) ∧
      (s.pm.slot0.isValid = false → s.pm.slot1.isValid = false → choice = none)

/-- LOAD_COMPLETION starts the part: IDLE, device time 0, the chosen image or the defaults, lock free, limits
copied, controllers RETIRED or in STOPPING with the discharge started (in OFF, or QUEUED with demand, where
the discharge time is 0), demand as the loaded policies give it, nothing charged (R24, R48, R76, R147, R199,
R200). The premises are that the load began from reset values and that the image keeps the law of R77. -/
def Obligations.LoadCompletionStartsThePart : Prop :=
  ∀ (choice : Option SlotId) (image : Configuration) (generation : BitVec 32) (s : State),
    s.pm.store = .loading (.chosen choice) → LoadingLaw s →
    (choice = none ∧ image = Configuration.default ∧ generation = 0 ∨
      ∃ i, choice = some i ∧ (s.pm.slot i).image = some image ∧
        (s.pm.slot i).generation = generation) →
    ForestLaw image →
    ∃ t, exec .loadCompletion s = .next t ∧
      t.pm = { s.pm with
        store := .idle, currentGeneration := generation, currentSlot := choice
        loadedGeneration := generation } ∧
      t.deviceTime = 0 ∧ t.config = image ∧ t.lock = none ∧ t.ports = s.ports ∧
      (∀ r, (t.account r).limit = (image.rails.of r).limit ∧ (t.account r).charges = []) ∧
      (∀ c, t.dem c = t.demandNow c ∧ (t.ctl c).demand = (t.dem c).effective) ∧
      (∀ c, (t.cfg c).admin = .retired →
        (t.ctl c).state = .retired ∧ (t.ctl c).discharge = none) ∧
      (∀ c, (t.cfg c).admin ≠ .retired → (t.cfg c).dischargeTime ≠ 0 →
        (t.ctl c).state = .stopping ∧ (t.ctl c).discharge = some (t.cfg c).dischargeTime) ∧
      (∀ c, (t.cfg c).admin ≠ .retired → (t.cfg c).dischargeTime = 0 →
        (t.ctl c).discharge = none ∧
        (t.ctl c).state =
          if (t.cfg c).admin = .enabled ∧ (t.dem c).effective = true then .queued else .off) ∧
      t.claims = s.claims ∧ t.notices = s.notices ∧ t.rails = s.rails ∧ t.xf = s.xf ∧
      t.enables = s.enables ∧ t.sense = s.sense ∧ t.pending = s.pending

/-! ### Transactions and the port's own answers -/

/-- TRANSACTION_OPEN on a released port opens a transaction; TRANSACTION_END returns the receiver to
DESELECTED and discards what was incomplete. A frame outside REQUEST is ignored. SDO is high impedance while
SEL_N is high, gives 0x00 in REQUEST, and in RESPONSE the response bytes and then 0x00 (R180, R182). The model's
reading: while the reset is asserted a falling SEL_N only selects the port (log 14), and both rows do nothing
where SEL_N already stands so (log 20). -/
def Obligations.TransactionsOpenAndEnd : Prop :=
  ∀ (h : HostId) (s : State),
    ((s.port h).selected = false → s.resetAsserted = false →
      exec (.transactionOpen h) s = .next (s.setPort h { s.port h with
        selected := true, receiver := .request, response := [] })) ∧
    ((s.port h).selected = false → s.resetAsserted = true →
      exec (.transactionOpen h) s = .next (s.setPort h { s.port h with
        selected := true, receiver := .deselected, response := [] })) ∧
    ((s.port h).selected = true → exec (.transactionOpen h) s = .next s) ∧
    ((s.port h).selected = true →
      exec (.transactionEnd h) s = .next (s.setPort h { s.port h with
        selected := false, receiver := .deselected, response := [] })) ∧
    ((s.port h).selected = false → exec (.transactionEnd h) s = .next s) ∧
    ((s.port h).receiver ≠ .request →
      (∀ i q, requestOf i = some q → q.port = h → exec i s = .next s) ∧
      ∀ seq cmd len, exec (.frameError h seq cmd len) s = .next s) ∧
    ((s.port h).selected = false → ∀ i, s.sdo h i = none) ∧
    ((s.port h).selected = true → (s.port h).receiver = .request → ∀ i, s.sdo h i = some 0) ∧
    (∀ i b, (s.port h).selected = true → (s.port h).receiver = .response →
      (s.port h).response[i]? = some b → s.sdo h i = some b) ∧
    (∀ i, (s.port h).selected = true → (s.port h).receiver = .response →
      (s.port h).response.length ≤ i → s.sdo h i = some 0)

/-- A LEN byte above 12 ends the frame with FRAME_ERROR, the SEQ echoed and RLEN 0, in every session state;
while Profile Memory loads with STARTING. Nothing else changes, and what the host goes on to send is ignored
(R183). -/
def Obligations.FrameErrorEndsTheFrameAtLen : Prop :=
  ∀ (h : HostId) (seq cmd len : Byte) (s : State),
    (s.port h).receiver = .request → 12 < len.toNat →
    ∃ t, exec (.frameError h seq cmd len) s = .next t ∧
      t = s.setPort h { s.port h with
        receiver := .response
        response := [if s.isLoading then 0x03 else 0x04, seq, 0] } ∧
      (∀ i q, requestOf i = some q → q.port = h → exec i t = .next t) ∧
      ∀ seq' cmd' len', exec (.frameError h seq' cmd' len') t = .next t

/-- While Profile Memory loads every frame, of any command or none and the row STARTING itself, is answered
STARTING. A new frame in CLOSED or
LAPSED, of any code but IDENTIFY and OPEN, is answered NO_SESSION. Neither changes anything else. In OPEN a code
that names no command is answered BAD_COMMAND, renews the lease and is stored (R149, R184, R185). -/
def Obligations.FramesAreTurnedAway : Prop :=
  (∀ (i : Instr) (q : Request) (s : State), requestOf i = some q → s.isLoading = true →
    (s.port q.port).receiver = .request → q.operands.length ≤ 12 →
    exec i s = .next (s.turnedAway q 0x03)) ∧
  (∀ (i : Instr) (q : Request) (s : State), requestOf i = some q → q.isNew s = true →
    (s.port q.port).session ≠ .opened → q.cmd ≠ 0x01 → q.cmd ≠ 0x02 →
    exec i s = .next (s.turnedAway q 0x05)) ∧
  ∀ (h : HostId) (seq cmd : Byte) (ops : List Byte) (s : State), isCommandCode cmd = false →
    Request.isTaken ⟨h, seq, cmd, ops⟩ s = true →
    exec (.badCommand h seq cmd ops) s = .next (s.replied ⟨h, seq, cmd, ops⟩ 0x06 [])

/-- A frame whose SEQ stands in the replay store is answered from it: the stored response byte for byte where
CMD and operands are the same, SEQ_REUSED otherwise. It is not executed; only the lease is renewed (R184,
R187). -/
def Obligations.ReplayStoreAnswersItsSeq : Prop :=
  ∀ (i : Instr) (q : Request) (e : ReplayEntry) (s : State), requestOf i = some q →
    q.meets s e = true →
    exec i s = .next (s.setPort q.port ((s.port q.port).renewed.gives
      (if e.cmd = q.cmd ∧ e.ops = q.operands then e.response else [0x19, q.seq, 0])))

/-- Each of the eleven commands that need the lock, from a host that does not hold it, is answered
NOT_HOLDER whatever its operands, and changes nothing but lease and replay store (R163). -/
def Obligations.LockCommandsNeedTheLock : Prop :=
  ∀ (i : Instr) (q : Request) (s : State), requestOf i = some q → q.isTaken s = true →
    q.cmd ∈ lockCommands → s.lock ≠ some q.port →
    exec i s = .next (s.replied q 0x0F [])

/-- A frame whose answer is neither OK nor EMPTY has changed no state of any block, but for its own port's
receiver, lease and replay store (R193). -/
def Obligations.RefusalsChangeNothing : Prop :=
  ∀ (i : Instr) (q : Request) (s t : State), requestOf i = some q → exec i s = .next t →
    (t.port q.port).response.head? ≠ some 0x01 → (t.port q.port).response.head? ≠ some 0x02 →
    t = s.setPort q.port { s.port q.port with
      receiver := (t.port q.port).receiver, response := (t.port q.port).response
      leaseTimer := (t.port q.port).leaseTimer, replay := (t.port q.port).replay }

/-! ### Reads -/

/-- IDENTIFY answers, in every session state, the part code 0x1604, a revision from 1, the port's host
number, 16 channels and 4 ports, and with operands BAD_LENGTH; it changes nothing but the replay store and,
in OPEN, the lease. In CLOSED and LAPSED no other command but OPEN is stored (R190). -/
def Obligations.IdentifyNamesThePart : Prop :=
  ∀ (h : HostId) (seq : Byte) (ops : List Byte) (s : State),
    Request.isNew ⟨h, seq, 0x01, ops⟩ s = true →
    (ops = [] → ∃ revision : Byte, revision ≠ 0 ∧
      exec (.identify h seq ops) s =
        .next (s.replied ⟨h, seq, 0x01, ops⟩ 0x01 [0x16, 0x04, revision, hostByte h, 16, 4])) ∧
    (ops ≠ [] → exec (.identify h seq ops) s = .next (s.replied ⟨h, seq, 0x01, ops⟩ 0x07 [])) ∧
    ((s.port h).session ≠ .opened → ∀ i q t, requestOf i = some q → q.port = h →
      q.isNew s = true → q.cmd ≠ 0x01 → q.cmd ≠ 0x02 → exec i s = .next t →
      (t.port h).replay = (s.port h).replay)

/-- CHANNEL_STATUS of a mapped channel answers the 24 bytes of R196 and changes nothing but lease and replay
store; a charged channel shows the rail and class of its charge, a QUEUED one its admission number (R23,
R46, R75, R192). -/
def Obligations.ChannelStatusReportsTheChannel : Prop :=
  ∀ (h : HostId) (seq : Byte) (l c : Chan) (s : State),
    Request.isTaken ⟨h, seq, 0x12, [chanByte l]⟩ s = true →
    (s.viewEntry h l).physical = some c →
    ∃ rail cls number : Byte, ∃ b0 b1 b2 b3 : Byte,
      exec (.channelStatus h seq [chanByte l]) s =
        .next (s.replied ⟨h, seq, 0x12, [chanByte l]⟩ 0x01
          ([(s.ctl c).state.code, (s.ctl c).sub.code, adminCode (s.cfg c).admin, rail,
            demandFlags (s.dem c), byteOf (s.dem c).priority,
            byteOf (if (s.dem c).own then (s.dem c).ownPriority else 0), cls,
            byteOf (s.ctl c).retryCount, lastFaultCode (s.ctl c).lastFault] ++
            be16 (s.sen c).measured ++ [s.claimMasks c, number] ++
            be16 (match s.claimOf c h with | some x => x.tag | none => 0) ++
            be32 (match s.claimOf c h with | some x => x.time | none => 0) ++ [b0, b1, b2, b3])) ∧
      number = byteOf (claimPriority (s.claimOf c h)) ∧
      (Uncharged s c → rail = 0xFF ∧ cls = byteOf (s.cfg c).classAU) ∧
      (AllocationLaw s → ∀ r, ∀ x ∈ (s.account r).charges, x.chan = c →
        rail = Rail.code r ∧ cls = byteOf x.classAU) ∧
      ((s.ctl c).state ≠ .queued → [b0, b1, b2, b3] = [0, 0, 0, 0]) ∧
      (AllocationLaw s → ∀ e ∈ s.queue, e.chan = c →
        [b0, b1, b2, b3] = be32 (BitVec.ofNat 32 e.number))

/-- RAIL_STATUS answers, for rail A and then rail B, state, limit, allocated sum, free, number of charges
and waiting candidate, then the number of queue entries. The candidate is the first entry in queue order
whose parent is NONE or ON and whose target is the rail, and is named by the caller's number or 255 (R33, R34,
R36, R47). -/
def Obligations.RailStatusReportsBothRails : Prop :=
  ∀ (h : HostId) (seq : Byte) (s : State), Request.isTaken ⟨h, seq, 0x13, []⟩ s = true →
    ∃ waiting : Rail → Byte,
      exec (.railStatus h seq []) s = .next (s.replied ⟨h, seq, 0x13, []⟩ 0x01
        (([Rail.a, Rail.b].flatMap fun r =>
          [(s.rail r).state.code] ++ be16Of (s.account r).limit ++ be16Of (s.account r).allocated ++
            be16Of ((s.account r).limit - (s.account r).allocated) ++
            [byteOf (s.account r).charges.length, waiting r]) ++ [byteOf s.queue.length])) ∧
      (∀ r before e after, s.queue = before ++ e :: after →
        s.target e.chan = some r → (∀ p, (s.cfg e.chan).parent = some p → (s.ctl p).state = .isOn) →
        (∀ x ∈ before, s.target x.chan = some r →
          ∃ p, (s.cfg x.chan).parent = some p ∧ (s.ctl p).state ≠ .isOn) →
        waiting r = match s.logicalOf h e.chan with | some l => byteOf l.val | none => 0xFF) ∧
      (∀ r, (∀ e ∈ s.queue, s.target e.chan = some r →
          ∃ p, (s.cfg e.chan).parent = some p ∧ (s.ctl p).state ≠ .isOn) → waiting r = 0xFF)

/-- GET_CHANNEL_CONFIG answers the twenty fields of any physical channel in the order of R131, to any OPEN
host whatever its view and the lock; with another number of operands BAD_LENGTH, above 15 BAD_VALUE. It
changes nothing but lease and replay store (R142). -/
def Obligations.GetChannelConfigReadsTheRecord : Prop :=
  ∀ (h : HostId) (seq : Byte) (ops : List Byte) (s : State),
    Request.isTaken ⟨h, seq, 0x33, ops⟩ s = true →
    (ops.length ≠ 1 → exec (.getChannelConfig h seq ops) s =
      .next (s.replied ⟨h, seq, 0x33, ops⟩ 0x07 [])) ∧
    (∀ b, ops = [b] → 15 < b.toNat → exec (.getChannelConfig h seq ops) s =
      .next (s.replied ⟨h, seq, 0x33, ops⟩ 0x08 [])) ∧
    ∀ c, ops = [chanByte c] → exec (.getChannelConfig h seq ops) s =
      .next (s.replied ⟨h, seq, 0x33, ops⟩ 0x01
        [adminCode (s.cfg c).admin, policyCode (s.cfg c).policy, byteOf (s.cfg c).claimants.toNat,
          byteOf (s.cfg c).enableLine.val, byteOf (s.cfg c).floor,
          match (s.cfg c).parent with | some p => byteOf p.val | none => 0xFF,
          byteOf (s.cfg c).classAU, byteOf (s.cfg c).tripThreshold, byteOf (s.cfg c).tripFilter,
          feedCode (s.cfg c).feed, byteOf (s.cfg c).softStart, byteOf (s.cfg c).blanking,
          byteOf (s.cfg c).dischargeTime, byteOf (s.cfg c).deadTime,
          faultSourceCode (s.cfg c).faultSource, byteOf (s.cfg c).retryLimit,
          byteOf (s.cfg c).backoffBase, byteOf (s.cfg c).detachThreshold,
          byteOf (s.cfg c).detachTime, actionCode (s.cfg c).detachAction])

/-- PING answers the device time and its operand bytes as sent. GET_VIEW_ENTRY answers the entry's channel, or
255, and its watch flag; GET_RAIL the rail's three fields; PROFILE_STATUS the fifteen bytes of R204, or
BAD_LENGTH with operands; all to any OPEN host without the lock, and nothing changes but lease and replay store
(R143, R146, R191, R204). -/
def Obligations.PlainReadsAnswerWhatStands : Prop :=
  (∀ (h : HostId) (seq : Byte) (ops : List Byte) (s : State),
    Request.isTaken ⟨h, seq, 0x04, ops⟩ s = true →
    exec (.ping h seq ops) s = .next (s.replied ⟨h, seq, 0x04, ops⟩ 0x01
      ([s.deviceTime.extractLsb' 24 8, s.deviceTime.extractLsb' 16 8, s.deviceTime.extractLsb' 8 8,
        s.deviceTime.extractLsb' 0 8] ++ ops))) ∧
  (∀ (h g : HostId) (l : Chan) (seq : Byte) (s : State),
    Request.isTaken ⟨h, seq, 0x35, [hostByte g, chanByte l]⟩ s = true →
    exec (.getViewEntry h seq [hostByte g, chanByte l]) s =
      .next (s.replied ⟨h, seq, 0x35, [hostByte g, chanByte l]⟩ 0x01
        [match (s.viewEntry g l).physical with | some c => byteOf c.val | none => 0xFF,
          if (s.viewEntry g l).watch then 1 else 0])) ∧
  (∀ (h : HostId) (r : Rail) (seq : Byte) (s : State),
    Request.isTaken ⟨h, seq, 0x37, [Rail.code r]⟩ s = true →
    exec (.getRail h seq [Rail.code r]) s =
      .next (s.replied ⟨h, seq, 0x37, [Rail.code r]⟩ 0x01
        (be16Of (s.config.rails.of r).limit ++
          [byteOf (s.config.rails.of r).lossQual, byteOf (s.config.rails.of r).restoreQual]))) ∧
  ∀ (h : HostId) (seq : Byte) (ops : List Byte) (s : State),
    Request.isTaken ⟨h, seq, 0x41, ops⟩ s = true →
    (ops ≠ [] → exec (.profileStatus h seq ops) s =
      .next (s.replied ⟨h, seq, 0x41, ops⟩ 0x07 [])) ∧
    (ops = [] → exec (.profileStatus h seq ops) s =
      .next (s.replied ⟨h, seq, 0x41, ops⟩ 0x01
        (([match s.pm.store with | .idle => 0 | .loading _ => 1 | .writing _ => 2] : List Byte) ++
          be32 s.pm.slot0.generation ++ [if s.pm.valid0 then 1 else 0] ++
          be32 s.pm.slot1.generation ++ [if s.pm.valid1 then 1 else 0] ++
          be32 s.pm.currentGeneration)))

/-! ### Sessions and the lock -/

/-- OPEN writes the three parameters, starts or stops the lease, and answers the data of R151. In CLOSED it
opens the session; in OPEN it updates it and a lease period of 0 frees a lock held here; in LAPSED it adopts
every ORPHANED claim of the host (R22, R150 to R152, R157). -/
def Obligations.OpenStartsUpdatesOrAdopts : Prop :=
  ∀ (h : HostId) (seq period : Byte) (mode : OrphanMode) (attention : Bool) (s : State),
    let ops : List Byte :=
      [period, match mode with | .keep => 0 | .drop => 1, if attention then 1 else 0]
    let q : Request := ⟨h, seq, 0x02, ops⟩
    let opened : State := s.setPort h { s.port h with
      session := .opened, leasePeriod := period.toNat, orphanMode := mode, attention := attention
      leaseTimer := if period.toNat = 0 then none else some (period.toNat * 100) }
    let cause : Byte := match s.pm.resetCause with | .powerOn => 0 | .pin => 1
    let holder (x : Option HostId) : Byte := match x with | some g => hostByte g | none => 0xFF
    q.isNew s = true →
    ((s.port h).session = .closed → exec (.openSession h seq ops) s =
      .next (opened.replied q 0x01
        ([cause] ++ be32 s.pm.loadedGeneration ++ [0, 0, holder s.lock]))) ∧
    ((s.port h).session = .opened → (period.toNat ≠ 0 ∨ s.lock ≠ some h) →
      exec (.openSession h seq ops) s = .next (opened.replied q 0x01
        ([cause] ++ be32 s.pm.loadedGeneration ++ [0, 0, holder s.lock]))) ∧
    ((s.port h).session = .opened → period.toNat = 0 → s.lock = some h →
      exec (.openSession h seq ops) s = .next (({ opened with lock := none } : State).replied q 0x01
        ([cause] ++ be32 s.pm.loadedGeneration ++ [0, 0, 0xFF]))) ∧
    ((s.port h).session = .lapsed → ∃ t, exec (.openSession h seq ops) s = .next t ∧
      (∀ c g, t.claimOf c g = if g = h then
        (s.claimOf c g).map fun x => { x with state := .active } else s.claimOf c g) ∧
      { t with claims := s.claims } = opened.replied q 0x01
        ([cause] ++ be32 s.pm.loadedGeneration ++
          [byteOf (allChans.filter fun c =>
            (s.claimOf c h).any fun x => x.state = .orphaned).length, 1, holder s.lock]))

/-- CLOSE ends the session: lease stopped, lock freed if held here, replay store and notice queue cleared,
every claim of the host removed and counted in the answer, which is not stored; other hosts keep claims and
ports (R21, R158, R176, R184). -/
def Obligations.CloseEndsTheSession : Prop :=
  ∀ (h : HostId) (seq : Byte) (s : State), Request.isTaken ⟨h, seq, 0x03, []⟩ s = true →
    ∃ t, exec (.closeSession h seq []) s = .next t ∧
      t.port h = { s.port h with
        session := .closed, leaseTimer := none, replay := none, receiver := .response
        response := [0x01, seq, 1,
          byteOf (allChans.filter fun c => (s.claimOf c h).isSome).length] } ∧
      (∀ g, g ≠ h → t.port g = s.port g) ∧
      t.lock = (if s.lock = some h then none else s.lock) ∧ t.noticesOf h = [] ∧
      (∀ c g, t.claimOf c g = if g = h then none else s.claimOf c g) ∧
      (AllocationLaw s → ∀ c, t.dem c = t.demandNow c) ∧
      KeepsTables { s with ports := t.ports, lock := t.lock, claims := t.claims } t

/-- LOCK: BAD_LENGTH with operands, NEEDS_LEASE with lease period 0, LOCKED with the holder's number while
another host holds it, otherwise the caller is the holder. UNLOCK: BAD_LENGTH with operands, NOT_HOLDER from
another host, otherwise the lock is free. Nothing else but lease and replay store changes (R161, R162). -/
def Obligations.LockIsTakenAndFreed : Prop :=
  ∀ (h : HostId) (seq : Byte) (ops : List Byte) (s : State),
    (Request.isTaken ⟨h, seq, 0x05, ops⟩ s = true →
      (ops ≠ [] → exec (.lock h seq ops) s = .next (s.replied ⟨h, seq, 0x05, ops⟩ 0x07 [])) ∧
      (ops = [] → (s.port h).leasePeriod = 0 →
        exec (.lock h seq ops) s = .next (s.replied ⟨h, seq, 0x05, ops⟩ 0x10 [])) ∧
      (∀ g, ops = [] → (s.port h).leasePeriod ≠ 0 → s.lock = some g → g ≠ h →
        exec (.lock h seq ops) s = .next (s.replied ⟨h, seq, 0x05, ops⟩ 0x0E [hostByte g])) ∧
      (ops = [] → (s.port h).leasePeriod ≠ 0 → (s.lock = none ∨ s.lock = some h) →
        exec (.lock h seq ops) s =
          .next (({ s with lock := some h } : State).replied ⟨h, seq, 0x05, ops⟩ 0x01
            [hostByte h]))) ∧
    (Request.isTaken ⟨h, seq, 0x06, ops⟩ s = true →
      (ops ≠ [] → exec (.unlock h seq ops) s = .next (s.replied ⟨h, seq, 0x06, ops⟩ 0x07 [])) ∧
      (ops = [] → s.lock ≠ some h →
        exec (.unlock h seq ops) s = .next (s.replied ⟨h, seq, 0x06, ops⟩ 0x0F [])) ∧
      (ops = [] → s.lock = some h →
        exec (.unlock h seq ops) s =
          .next (({ s with lock := none } : State).replied ⟨h, seq, 0x06, ops⟩ 0x01 [])))

/-- DROP_CLAIMS from the lock holder: HOST_OPEN for an OPEN host, OK with count 0 for a CLOSED one; for a
LAPSED one every ORPHANED claim is removed and counted, no other claim is touched, and demand is recomputed
(R22, R159). -/
def Obligations.DropClaimsRemovesOrphans : Prop :=
  ∀ (h g : HostId) (seq : Byte) (s : State),
    let q : Request := ⟨h, seq, 0x38, [hostByte g]⟩
    q.isTaken s = true → s.lock = some h →
    ((s.port g).session = .opened →
      exec (.dropClaims h seq [hostByte g]) s = .next (s.replied q 0x17 [])) ∧
    ((s.port g).session = .closed →
      exec (.dropClaims h seq [hostByte g]) s = .next (s.replied q 0x01 [0])) ∧
    ((s.port g).session = .lapsed → ∃ t, exec (.dropClaims h seq [hostByte g]) s = .next t ∧
      (∀ c k, t.claimOf c k =
        if k = g ∧ (s.claimOf c k).any (fun x => x.state = .orphaned) then none
        else s.claimOf c k) ∧
      (AllocationLaw s → ∀ c, t.dem c = t.demandNow c) ∧
      KeepsTables (({ s with claims := t.claims } : State).replied q 0x01
        [byteOf (allChans.filter fun c =>
          (s.claimOf c g).any fun x => x.state = .orphaned).length]) t ∧
      QueuesGrow s t)

/-- A lapse: the session LAPSED, lease stopped, lock freed if held here, replay store and notice queue
cleared. With KEEP every claim of the host is ORPHANED and nothing else changes; with DROP every claim of
the host is removed and demand recomputed (R21, R154, R155, R176). -/
def Obligations.LapseEndsTheLease : Prop :=
  ∀ (h : HostId) (s : State), s.isLoading = false → (s.port h).session = .opened →
    (s.port h).leaseTimer = some 0 →
    ∃ t, exec (.lapse h) s = .next t ∧
      t.port h = { s.port h with session := .lapsed, leaseTimer := none, replay := none } ∧
      (∀ g, g ≠ h → t.port g = s.port g) ∧
      t.lock = (if s.lock = some h then none else s.lock) ∧ t.noticesOf h = [] ∧
      ((s.port h).orphanMode = .keep →
        (∀ c g, t.claimOf c g = if g = h then
          (s.claimOf c g).map fun x => { x with state := .orphaned } else s.claimOf c g) ∧
        t = { s with ports := t.ports, lock := t.lock, claims := t.claims, notices := t.notices } ∧
        ∀ g, g ≠ h → t.noticesOf g = s.noticesOf g) ∧
      ((s.port h).orphanMode = .drop →
        (∀ c g, t.claimOf c g = if g = h then none else s.claimOf c g) ∧
        (AllocationLaw s → ∀ c, t.dem c = t.demandNow c) ∧
        KeepsTables { s with ports := t.ports, lock := t.lock, claims := t.claims } t)

/-! ### Claims -/

/-- CLAIM's checks in the order of R7; the first that fails gives the result and nothing but lease and
replay store changes. -/
def Obligations.ClaimChecksInOrder : Prop :=
  ∀ (h : HostId) (seq : Byte) (ops : List Byte) (s : State),
    let q : Request := ⟨h, seq, 0x10, ops⟩
    q.isTaken s = true →
    (ops.length ≠ 4 → exec (.claim h seq ops) s = .next (s.replied q 0x07 [])) ∧
    ∀ b p t1 t0, ops = [b, p, t1, t0] →
      (15 < b.toNat ∨ 7 < p.toNat → exec (.claim h seq ops) s = .next (s.replied q 0x08 [])) ∧
      ∀ l, b = chanByte l → p.toNat ≤ 7 →
        ((s.viewEntry h l).physical = none →
          exec (.claim h seq ops) s = .next (s.replied q 0x09 [])) ∧
        ∀ c, (s.viewEntry h l).physical = some c →
          ((s.cfg c).admin = .retired ∨ (s.cfg c).policy = .line ∨ (s.cfg c).policy = .pinned →
            exec (.claim h seq ops) s = .next (s.replied q 0x0A [])) ∧
          ((s.cfg c).admin ≠ .retired → (s.cfg c).policy = .any ∨ (s.cfg c).policy = .all →
            (s.cfg c).claimants.getLsbD h.val = false →
            exec (.claim h seq ops) s = .next (s.replied q 0x0B []))

/-- A CLAIM past its checks makes or replaces the caller's record, ACTIVE with the given priority and tag and
the device time, touches no other record, brings demand to the formulas, and answers the outcome, the claim
time and the channel's demand after the whole event (R8, R15). -/
def Obligations.ClaimIsRecorded : Prop :=
  ∀ (h : HostId) (seq p t1 t0 : Byte) (l c : Chan) (s : State),
    let ops : List Byte := [chanByte l, p, t1, t0]
    let q : Request := ⟨h, seq, 0x10, ops⟩
    q.isTaken s = true → p.toNat ≤ 7 → (s.viewEntry h l).physical = some c →
    (s.cfg c).admin ≠ .retired → (s.cfg c).policy = .any ∨ (s.cfg c).policy = .all →
    (s.cfg c).claimants.getLsbD h.val = true →
    ∃ t, exec (.claim h seq ops) s = .next t ∧
      (∀ k g, t.claimOf k g = if k = c ∧ g = h then
        some ⟨.active, p.toNat, t1 ++ t0, s.deviceTime⟩ else s.claimOf k g) ∧
      (AllocationLaw s → ∀ k, t.dem k = t.demandNow k) ∧
      KeepsTables (({ s with claims := t.claims } : State).replied q 0x01
        ([if (s.claimOf c h).isSome then 1 else 0] ++ be32 s.deviceTime ++
          [demandFlags (t.dem c), byteOf (t.dem c).priority])) t ∧
      QueuesGrow s t

/-- A RELEASE of a claim the caller holds removes that record and no other, brings demand to the formulas,
and answers the record's priority and tag and the channel's demand; without a claim it is NO_CLAIM (R9). -/
def Obligations.ReleaseRemovesTheClaim : Prop :=
  ∀ (h : HostId) (seq : Byte) (l c : Chan) (s : State),
    let q : Request := ⟨h, seq, 0x11, [chanByte l]⟩
    q.isTaken s = true → (s.viewEntry h l).physical = some c →
    (s.claimOf c h = none → exec (.release h seq [chanByte l]) s = .next (s.replied q 0x0C [])) ∧
    ∀ x, s.claimOf c h = some x →
      ∃ t, exec (.release h seq [chanByte l]) s = .next t ∧
        (∀ k g, t.claimOf k g = if k = c ∧ g = h then none else s.claimOf k g) ∧
        (AllocationLaw s → ∀ k, t.dem k = t.demandNow k) ∧
        KeepsTables (({ s with claims := t.claims } : State).replied q 0x01
          ([byteOf x.priority] ++ be16 x.tag ++
            [demandFlags (t.dem c), byteOf (t.dem c).priority])) t ∧
        QueuesGrow s t

/-! ### Notices -/

/-- A record given to a host is stored at the tail of its queue with the flag clear, or, where the queue holds
32 records, is lost and sets the newest record's lost-after flag; other queues and all other state are
untouched. ATTN_N is asserted while the session is OPEN, attention enable is on and the queue holds a record,
so a record given leaves it asserted there (R172, R173, R177). -/
def Obligations.FullQueueFlagsItsNewestRecord : Prop :=
  ∀ (hosts : HostId → Bool) (record : HostId → Notice) (h : HostId) (s : State),
    (hosts h = false → (s.deliver hosts record).noticesOf h = s.noticesOf h) ∧
    (hosts h = true → (s.noticesOf h).length < 32 →
      (s.deliver hosts record).noticesOf h = s.noticesOf h ++ [record h]) ∧
    (∀ older newest, hosts h = true → 32 ≤ (s.noticesOf h).length →
      s.noticesOf h = older ++ [newest] →
      (s.deliver hosts record).noticesOf h = older ++ [{ newest with lostAfter := true }]) ∧
    (s.attention h = true ↔
      (s.port h).session = .opened ∧ (s.port h).attention = true ∧ s.noticesOf h ≠ []) ∧
    (hosts h = true → (s.port h).session = .opened → (s.port h).attention = true →
      (s.deliver hosts record).attention h = true) ∧
    s.deliver hosts record = { s with notices := (s.deliver hosts record).notices }

/-- NEXT_NOTICE: BAD_LENGTH with operands; EMPTY on an empty queue; otherwise the head is removed and
answered in the 16 bytes of R195 with the number left. Nothing else but lease and replay store changes, and
ATTN_N is released with the last record (R174, R177). -/
def Obligations.NextNoticeTakesTheHead : Prop :=
  ∀ (h : HostId) (seq : Byte) (ops : List Byte) (s : State),
    let q : Request := ⟨h, seq, 0x14, ops⟩
    q.isTaken s = true →
    (ops ≠ [] → exec (.nextNotice h seq ops) s = .next (s.replied q 0x07 [])) ∧
    (ops = [] → s.noticesOf h = [] → exec (.nextNotice h seq ops) s = .next (s.replied q 0x02 [])) ∧
    ∀ n rest, ops = [] → s.noticesOf h = n :: rest →
      ∃ t, exec (.nextNotice h seq ops) s = .next t ∧
        t = (s.setNotices h rest).replied q 0x01
          ([n.report.kindCode, match n.logical with | some l => byteOf l.val | none => 0xFF,
              n.report.causeCode, match n.newState with | some k => k.code | none => 0xFF] ++
            be16 n.tag ++ n.report.detail ++ be32 n.time ++
            [if n.lostAfter then 1 else 0, byteOf rest.length]) ∧
        (t.attention h = true ↔ (s.port h).attention = true ∧ rest ≠ [])

/-! ### Administration of a channel -/

/-- HOLD on an ENABLED channel makes it HELD and the controller takes it by its state: QUEUED to OFF; SOFTSTART,
ON and SWITCHOVER to STOPPING, or OFF where the discharge time is 0; RETRY_WAIT to STOPPING while the
discharge runs, else OFF; the others unchanged. On a HELD or RETIRED channel it is answered OK and changes
nothing (R68). -/
def Obligations.HoldTakesTheChannelOut : Prop :=
  ∀ (h : HostId) (seq : Byte) (c : Chan) (s : State),
    let q : Request := ⟨h, seq, 0x20, [chanByte c]⟩
    q.isTaken s = true → s.lock = some h →
    ((s.cfg c).admin ≠ .enabled → exec (.hold h seq [chanByte c]) s =
      .next (s.replied q 0x01 [(s.ctl c).state.code, adminCode (s.cfg c).admin])) ∧
    ((s.cfg c).admin = .enabled → QueueLaw s →
      ∃ t, exec (.hold h seq [chanByte c]) s = .next t ∧
        (t.ctl c).state = (match (s.ctl c).state with
          | .queued => .off
          | .softstart | .isOn | .switchover =>
            if (s.cfg c).dischargeTime = 0 then .off else .stopping
          | .retryWait => if (s.ctl c).discharge.isSome then .stopping else .off
          | .off => .off
          | .stopping => .stopping
          | .latched => .latched
          | .retired => .retired) ∧
        ((s.ctl c).state.charged = true → Uncharged t c) ∧
        (∀ e ∈ t.queue, e.chan ≠ c) ∧
        KeepsTables ((s.setCfg c { s.cfg c with admin := .held }).replied q 0x01
          [(t.ctl c).state.code, 1]) t ∧
        QueuesGrow s t)

/-- UNHOLD on a HELD channel makes it ENABLED: in STOPPING and LATCHED the state stays, in OFF with the demand
item present it enters QUEUED with the next admission number, and stands there if no rail is UP. On an
ENABLED or RETIRED channel it is answered OK and changes nothing (R55, R69). -/
def Obligations.UnholdQueuesAWantedChannel : Prop :=
  ∀ (h : HostId) (seq : Byte) (c : Chan) (s : State),
    let q : Request := ⟨h, seq, 0x21, [chanByte c]⟩
    q.isTaken s = true → s.lock = some h →
    ((s.cfg c).admin ≠ .held → exec (.unhold h seq [chanByte c]) s =
      .next (s.replied q 0x01 [(s.ctl c).state.code, adminCode (s.cfg c).admin])) ∧
    ((s.cfg c).admin = .held → QueueLaw s →
      ∃ t, exec (.unhold h seq [chanByte c]) s = .next t ∧
        ((s.ctl c).state = .stopping ∨ (s.ctl c).state = .latched →
          (t.ctl c).state = (s.ctl c).state) ∧
        ((s.ctl c).state = .off → (s.ctl c).demand = true →
          s.admissionCounter < t.admissionCounter) ∧
        ((s.ctl c).state = .off → (s.ctl c).demand = true → s.isUp .a = false → s.isUp .b = false →
          DemandLaw s → (t.ctl c).state = .queued ∧
            ∃ e ∈ t.queue, e.chan = c ∧ e.number = s.admissionCounter) ∧
        KeepsTables ((s.setCfg c { s.cfg c with admin := .enabled }).replied q 0x01
          [(t.ctl c).state.code, 0]) t ∧
        QueuesGrow s t)

/-- RETIRE of an OFF or LATCHED channel without children leaves it RETIRED with retry count 0, its discharge
and last fault as they were, and none of its claims; each removed claim of an OPEN host gives that host
CLAIM_DROPPED with cause CONFIG. On a RETIRED channel it changes nothing; with a child it is HAS_CHILDREN,
outside OFF, LATCHED and RETIRED it is CHANNEL_ACTIVE (R18, R19, R70, R140). -/
def Obligations.RetireTakesTheChannelOutOfUse : Prop :=
  ∀ (h : HostId) (seq : Byte) (c : Chan) (s : State),
    let q : Request := ⟨h, seq, 0x22, [chanByte c]⟩
    q.isTaken s = true → s.lock = some h →
    ((s.ctl c).state ≠ .off → (s.ctl c).state ≠ .latched → (s.ctl c).state ≠ .retired →
      exec (.retire h seq [chanByte c]) s = .next (s.replied q 0x11 [])) ∧
    ((s.ctl c).state = .off ∨ (s.ctl c).state = .latched ∨ (s.ctl c).state = .retired →
      (∀ k, (s.cfg k).parent = some c →
        exec (.retire h seq [chanByte c]) s = .next (s.replied q 0x13 [])) ∧
      ((∀ k, (s.cfg k).parent ≠ some c) → (s.cfg c).admin = .retired →
        exec (.retire h seq [chanByte c]) s =
          .next (s.replied q 0x01 [(s.ctl c).state.code, 0])) ∧
      ((∀ k, (s.cfg k).parent ≠ some c) → (s.cfg c).admin ≠ .retired → QueueLaw s →
        ∃ t, exec (.retire h seq [chanByte c]) s = .next t ∧
          (t.ctl c).state = .retired ∧
          ((s.ctl c).state ≠ .retired → (t.ctl c).retryCount = 0) ∧
          (t.ctl c).lastFault = (s.ctl c).lastFault ∧
          (t.ctl c).discharge = (s.ctl c).discharge ∧
          (∀ k g, t.claimOf k g = if k = c then none else s.claimOf k g) ∧
          (∀ g x, s.claimOf c g = some x → (s.port g).session = .opened →
            NextRecord s t g
              { report := .claimDropped .config, logical := s.logicalOf g c
                newState := some .retired, tag := x.tag, time := s.deviceTime
                lostAfter := false }) ∧
          KeepsTables (({ s.setCfg c { s.cfg c with admin := .retired } with claims := t.claims }
            : State).replied q 0x01
            [0, byteOf (allHosts.filter fun g => (s.claimOf c g).isSome).length]) t ∧
          QueuesGrow s t))

/-- RESTORE of a RETIRED channel makes it ENABLED: STOPPING while a discharge runs, otherwise OFF, and on to
QUEUED if it gains demand. On any other channel it is answered OK and changes nothing (R71, R141). -/
def Obligations.RestoreReturnsTheChannel : Prop :=
  ∀ (h : HostId) (seq : Byte) (c : Chan) (s : State),
    let q : Request := ⟨h, seq, 0x23, [chanByte c]⟩
    q.isTaken s = true → s.lock = some h →
    ((s.cfg c).admin ≠ .retired → exec (.restore h seq [chanByte c]) s =
      .next (s.replied q 0x01 [(s.ctl c).state.code, adminCode (s.cfg c).admin])) ∧
    ((s.cfg c).admin = .retired → (s.ctl c).state = .retired → QueueLaw s → ForestLaw s.config →
      (s.dem c).effective = false → (s.ctl c).demand = false →
      ∃ t, exec (.restore h seq [chanByte c]) s = .next t ∧
        (∀ n, (s.ctl c).discharge = some n →
          (t.ctl c).state = .stopping ∧ (t.ctl c).discharge = some n) ∧
        ((s.ctl c).discharge = none → (t.dem c).effective = false → (t.ctl c).state = .off) ∧
        ((s.ctl c).discharge = none → (t.dem c).effective = true → s.isUp .a = false →
          s.isUp .b = false → (t.ctl c).state = .queued) ∧
        KeepsTables ((s.setCfg c { s.cfg c with admin := .enabled }).replied q 0x01
          [(t.ctl c).state.code, 0]) t ∧
        QueuesGrow s t)

/-- CLEAR_FAULT by a claimant or the lock holder sets the retry count to 0. In RETRY_WAIT nothing else
changes. In LATCHED the channel goes to STOPPING while its discharge runs, otherwise to OFF and, with demand and
ENABLED, on to QUEUED with the next admission number, where it stands if no rail is UP. In any other state it is
NOT_FAULTED; without claim and lock it is NOT_PERMITTED (R110, R111). -/
def Obligations.ClearFaultResetsTheCount : Prop :=
  ∀ (h : HostId) (seq : Byte) (l c : Chan) (s : State),
    let q : Request := ⟨h, seq, 0x15, [chanByte l]⟩
    q.isTaken s = true → (s.viewEntry h l).physical = some c →
    (s.claimOf c h = none → s.lock ≠ some h →
      exec (.clearFault h seq [chanByte l]) s = .next (s.replied q 0x0B [])) ∧
    ((s.claimOf c h).isSome = true ∨ s.lock = some h →
      ((s.ctl c).state ≠ .latched → (s.ctl c).state ≠ .retryWait →
        exec (.clearFault h seq [chanByte l]) s = .next (s.replied q 0x0D [])) ∧
      ((s.ctl c).state = .retryWait →
        exec (.clearFault h seq [chanByte l]) s =
          .next ((s.setCtl c { s.ctl c with retryCount := 0 }).replied q 0x01 [7, 0])) ∧
      ((s.ctl c).state = .latched → QueueLaw s →
        ∃ t, exec (.clearFault h seq [chanByte l]) s = .next t ∧
          (∀ n, (s.ctl c).discharge = some n →
            (t.ctl c).state = .stopping ∧ (t.ctl c).retryCount = 0 ∧
              (t.ctl c).discharge = some n ∧ (t.ctl c).lastFault = (s.ctl c).lastFault) ∧
          ((s.ctl c).discharge = none → (s.cfg c).admin = .held →
            (t.ctl c).state = .off ∧ (t.ctl c).retryCount = 0 ∧
              (t.ctl c).lastFault = (s.ctl c).lastFault) ∧
          ((s.ctl c).discharge = none → (s.cfg c).admin = .enabled → (s.ctl c).demand = true →
            s.admissionCounter < t.admissionCounter) ∧
          ((s.ctl c).discharge = none → (s.cfg c).admin = .enabled → (s.ctl c).demand = true →
            s.isUp .a = false → s.isUp .b = false → DemandLaw s →
            (t.ctl c).state = .queued ∧ (t.ctl c).retryCount = 0 ∧
              (t.ctl c).lastFault = (s.ctl c).lastFault ∧
              ∃ e ∈ t.queue, e.chan = c ∧ e.number = s.admissionCounter) ∧
          ((s.ctl c).discharge = none → (s.ctl c).demand = false → DemandLaw s →
            (t.ctl c).state = .off ∧ (t.ctl c).retryCount = 0 ∧
              (t.ctl c).lastFault = (s.ctl c).lastFault) ∧
          KeepsTables (s.replied q 0x01
            [(t.ctl c).state.code, byteOf (t.ctl c).retryCount]) t ∧
          QueuesGrow s t))

/-! ### Configuration -/

/-- SET_CHANNEL_POWER and SET_CHANNEL_POLICY on an OFF, LATCHED or RETIRED channel write exactly their fields;
in any other channel state both are CHANNEL_ACTIVE. A trip threshold below the class or a blanking above the
soft-start time is BAD_VALUE. A new parent that is the channel itself, a descendant of it, RETIRED, or so deep
that a chain of more than four channels would come about is BAD_PARENT; any other is taken. A policy change
drops every claim under LINE and PINNED, and otherwise those of the hosts that leave the set (R19, R131, R133
to R138). -/
def Obligations.ChannelRecordsAreWritten : Prop :=
  (∀ (h : HostId) (seq cls thr flt soft blank dis dead : Byte) (feed : Feed) (c : Chan) (s : State),
    let ops : List Byte := [chanByte c, cls, thr, flt, feedCode feed, soft, blank, dis, dead]
    let q : Request := ⟨h, seq, 0x30, ops⟩
    q.isTaken s = true → s.lock = some h →
    1 ≤ cls.toNat → cls.toNat ≤ 200 → thr.toNat ≤ 250 → flt.toNat ≤ 15 → 1 ≤ soft.toNat →
    1 ≤ dead.toNat → dead.toNat ≤ 50 →
    (thr.toNat < cls.toNat ∨ soft.toNat < blank.toNat →
      exec (.setChannelPower h seq ops) s = .next (s.replied q 0x08 [])) ∧
    (cls.toNat ≤ thr.toNat → blank.toNat ≤ soft.toNat →
      ((s.ctl c).state ≠ .off → (s.ctl c).state ≠ .latched → (s.ctl c).state ≠ .retired →
        exec (.setChannelPower h seq ops) s = .next (s.replied q 0x11 [])) ∧
      ((s.ctl c).state = .off ∨ (s.ctl c).state = .latched ∨ (s.ctl c).state = .retired →
        ∃ t, exec (.setChannelPower h seq ops) s = .next t ∧
          KeepsTables ((s.setCfg c { s.cfg c with
            classAU := cls.toNat, tripThreshold := thr.toNat, tripFilter := flt.toNat, feed := feed
            softStart := soft.toNat, blanking := blank.toNat, dischargeTime := dis.toNat
            deadTime := dead.toNat }).replied q 0x01
            [(t.ctl c).state.code, adminCode (s.cfg c).admin]) t ∧
          QueuesGrow s t ∧
          (s.queue = [] → t = { s with config := t.config, ports := t.ports })))) ∧
  ∀ (h : HostId) (seq set : Byte) (policy : Policy) (line : LineId) (floor : Fin 8)
    (parent : Option Chan) (c : Chan) (s : State),
    let ops : List Byte := [chanByte c, policyCode policy, set, hostByte line,
      BitVec.ofNat 8 floor.val, match parent with | some p => chanByte p | none => 0xFF]
    let q : Request := ⟨h, seq, 0x31, ops⟩
    q.isTaken s = true → s.lock = some h → 1 ≤ set.toNat → set.toNat ≤ 15 →
    ((s.ctl c).state ≠ .off → (s.ctl c).state ≠ .latched → (s.ctl c).state ≠ .retired →
      exec (.setChannelPolicy h seq ops) s = .next (s.replied q 0x11 [])) ∧
    ((s.ctl c).state = .off ∨ (s.ctl c).state = .latched ∨ (s.ctl c).state = .retired →
      (∀ p, parent = some p → parent ≠ (s.cfg c).parent → (p = c ∨ (s.cfg p).admin = .retired) →
        exec (.setChannelPolicy h seq ops) s = .next (s.replied q 0x12 [])) ∧
      (∀ p n, parent = some p → parent ≠ (s.cfg c).parent → ForestLaw s.config →
        s.above n p = some c →
        exec (.setChannelPolicy h seq ops) s = .next (s.replied q 0x12 [])) ∧
      (∀ p n m k, parent = some p → parent ≠ (s.cfg c).parent → ForestLaw s.config →
        s.above n p ≠ none → s.above m k = some c → 4 < (n + 1) + (m + 1) →
        exec (.setChannelPolicy h seq ops) s = .next (s.replied q 0x12 [])) ∧
      ((∀ p, parent = some p → parent ≠ (s.cfg c).parent →
          (s.cfg p).admin ≠ .retired ∧ (∀ n, s.above n p ≠ some c) ∧
          ∀ n m k, s.above n p ≠ none → s.above m k = some c → (n + 1) + (m + 1) ≤ 4) →
        ∃ t, exec (.setChannelPolicy h seq ops) s = .next t ∧
          (∀ k g, t.claimOf k g =
            if k = c ∧ (policy = .line ∨ policy = .pinned ∨
              ((s.cfg c).claimants.getLsbD g.val = true ∧ set.getLsbD g.val = false)) then none
            else s.claimOf k g) ∧
          (AllocationLaw s → ∀ k, t.dem k = t.demandNow k) ∧
          KeepsTables (({ s.setCfg c { s.cfg c with
            policy := policy, claimants := set.extractLsb' 0 4, enableLine := line
            floor := floor.val, parent := parent } with claims := t.claims } : State).replied q 0x01
            [(t.ctl c).state.code, adminCode (s.cfg c).admin]) t ∧
          QueuesGrow s t))

/-- SET_CHANNEL_FAULT on an OFF, LATCHED or RETIRED channel writes its six fields; on a LATCHED channel it sets
the retry count to the new limit plus one; nothing else changes. In any other state it is CHANNEL_ACTIVE
(R109, R133, R134, R139). -/
def Obligations.RetryLimitReachesALatchedChannel : Prop :=
  ∀ (h : HostId) (seq src base thr time : Byte) (limit : Fin 8) (source : FaultSource)
    (action : DetachAction) (c : Chan) (s : State),
    let ops : List Byte := [chanByte c, src, BitVec.ofNat 8 limit.val, base, thr, time,
      match action with | .notify => 0 | .release => 1]
    let q : Request := ⟨h, seq, 0x32, ops⟩
    q.isTaken s = true → s.lock = some h → src = faultSourceCode source →
    1 ≤ base.toNat → 1 ≤ time.toNat →
    ((s.ctl c).state ≠ .off → (s.ctl c).state ≠ .latched → (s.ctl c).state ≠ .retired →
      exec (.setChannelFault h seq ops) s = .next (s.replied q 0x11 [])) ∧
    ((s.ctl c).state = .off ∨ (s.ctl c).state = .latched ∨ (s.ctl c).state = .retired →
      exec (.setChannelFault h seq ops) s = .next (((s.setCfg c { s.cfg c with
          faultSource := source, retryLimit := limit.val, backoffBase := base.toNat
          detachThreshold := thr.toNat, detachTime := time.toNat, detachAction := action }).setCtl c
        { s.ctl c with
          retryCount := if (s.ctl c).state = .latched then limit.val + 1
            else (s.ctl c).retryCount }).replied q 0x01
        [(s.ctl c).state.code, adminCode (s.cfg c).admin]))

/-- SET_VIEW_ENTRY writes one entry of one view and nothing else, unless the entry's channel changes while
the host holds a claim on the channel mapped now (CLAIM_PRESENT) or another entry maps the new channel
(DUPLICATE_MAP); an unchanged channel passes both (R144, R145). -/
def Obligations.ViewEntriesAreWritten : Prop :=
  ∀ (h g : HostId) (seq : Byte) (l : Chan) (new : Option Chan) (watch : Bool) (s : State),
    let ops : List Byte := [hostByte g, chanByte l,
      match new with | some c => chanByte c | none => 0xFF, if watch then 1 else 0]
    let q : Request := ⟨h, seq, 0x34, ops⟩
    q.isTaken s = true → s.lock = some h →
    (∀ c, (s.viewEntry g l).physical = some c → new ≠ some c → (s.claimOf c g).isSome = true →
      exec (.setViewEntry h seq ops) s = .next (s.replied q 0x15 [])) ∧
    ((∀ c, (s.viewEntry g l).physical = some c → new ≠ some c → s.claimOf c g = none) →
      (∀ m c, new = some c → new ≠ (s.viewEntry g l).physical → m ≠ l →
        (s.viewEntry g m).physical = some c →
        exec (.setViewEntry h seq ops) s = .next (s.replied q 0x16 [])) ∧
      ((new = (s.viewEntry g l).physical ∨ new = none ∨
          ∀ m, m ≠ l → (s.viewEntry g m).physical ≠ new) →
        exec (.setViewEntry h seq ops) s =
          .next (({ s with config := { s.config with
            views := put s.config.views g (put (look s.config.views g) l ⟨new, watch⟩) } } : State
            ).replied q 0x01 [match new with | some c => chanByte c | none => 0xFF,
              if watch then 1 else 0])))

/-- SET_RAIL with a limit not below the allocated sum writes the record and the account's limit, and answers
limit, allocated sum and free as they stand after the examination; below it it is OVER_ALLOCATED. With
nothing queued nothing else changes (R27, R143). -/
def Obligations.SetRailKeepsTheAllocation : Prop :=
  ∀ (h : HostId) (seq l1 l0 loss restore : Byte) (r : Rail) (s : State),
    let ops : List Byte := [Rail.code r, l1, l0, loss, restore]
    let q : Request := ⟨h, seq, 0x36, ops⟩
    let limit : Nat := (l1 ++ l0 : BitVec 16).toNat
    q.isTaken s = true → s.lock = some h → limit ≤ 1000 → loss.toNat ≤ 15 → 1 ≤ restore.toNat →
    (limit < (s.account r).allocated →
      exec (.setRail h seq ops) s = .next (s.replied q 0x14 [])) ∧
    ((s.account r).allocated ≤ limit → ∃ t, exec (.setRail h seq ops) s = .next t ∧
      (t.account r).limit = limit ∧ (t.account r.other).limit = (s.account r.other).limit ∧
      KeepsTables (({ s with config := { s.config with
        rails := s.config.rails.setOf r ⟨limit, loss.toNat, restore.toNat⟩ } } : State).replied q 0x01
        (be16Of limit ++ be16Of (t.account r).allocated ++
          be16Of (limit - (t.account r).allocated))) t ∧
      QueuesGrow s t ∧
      (s.queue = [] → t = { s with config := t.config, ports := t.ports, accounts := t.accounts } ∧
        t.account r = ⟨limit, (s.account r).charges⟩ ∧ t.account r.other = s.account r.other))

/-! ### Profile Memory -/

/-- COMMIT from the lock holder: BAD_LENGTH, BUSY while WRITING, BAD_VALUE at the last generation; otherwise
the target, slot 0 at generation 0 and else the slot that is not current, is erased and invalid, the live
configuration is the snapshot, and the answer is the current generation plus 1. Nothing else changes
(R201). -/
def Obligations.CommitErasesTheOtherSlot : Prop :=
  ∀ (h : HostId) (seq : Byte) (ops : List Byte) (s : State),
    let q : Request := ⟨h, seq, 0x40, ops⟩
    q.isTaken s = true → s.lock = some h →
    (ops ≠ [] → exec (.commit h seq ops) s = .next (s.replied q 0x07 [])) ∧
    (∀ job, ops = [] → s.pm.store = .writing job →
      exec (.commit h seq ops) s = .next (s.replied q 0x18 [])) ∧
    (ops = [] → s.pm.store = .idle → s.pm.currentGeneration = 0xFFFFFFFE#32 →
      exec (.commit h seq ops) s = .next (s.replied q 0x08 [])) ∧
    ∀ i, ops = [] → s.pm.store = .idle → s.pm.currentGeneration ≠ 0xFFFFFFFE#32 →
      (s.pm.currentGeneration = 0 ∧ i = .slot0 ∨
        s.pm.currentGeneration ≠ 0 ∧ ∃ j, s.pm.currentSlot = some j ∧ i ≠ j) →
      exec (.commit h seq ops) s = .next (({ s with
        pm := { (s.pm.setSlot i ⟨0xFFFFFFFF#32, none, 0⟩).setValid i false with
          store := .writing ⟨i, s.pm.currentGeneration + 1, s.config, h, 0⟩ } } : State).replied q
            0x01 (be32 (s.pm.currentGeneration + 1)))

/-- COMMIT_COMPLETION, from 30 ms after the acceptance: with success the target holds snapshot, check and new
generation, is valid and current; with a verify failure it is erased and invalid. IDLE either way, a notice to
the requester if it is OPEN, and nothing else (R169, R202). -/
def Obligations.CommitCompletesOrFails : Prop :=
  ∀ (verified : Bool) (job : CommitJob) (s : State), s.pm.store = .writing job → 30 ≤ job.age →
    ∃ t, exec (.commitCompletion verified) s = .next t ∧
      t = { s with pm := t.pm, notices := t.notices } ∧
      t.pm = (if verified then
        { (s.pm.setSlot job.target ⟨job.generation, some job.snapshot,
            Config.profileCheck job.generation job.snapshot⟩).setValid job.target true with
          store := .idle, currentGeneration := job.generation, currentSlot := some job.target }
        else { (s.pm.setSlot job.target ⟨0xFFFFFFFF#32, none, 0⟩).setValid job.target false with
          store := .idle }) ∧
      ∀ g, t.noticesOf g =
        if g = job.requester ∧ (s.port g).session = .opened then
          appendNotice (s.noticesOf g)
            { report := if verified then .commitDone job.generation
                else .commitFailed job.generation
              logical := none, newState := none, tag := 0, time := s.deviceTime, lostAfter := false }
        else s.noticesOf g

/-! ### Sensing -/

/-- What the Sense Unit keeps of a sample: measured currents, rail inputs, the runs of the enable
lines toward the other level, trip and detach runs and power-good flags as R59, R72 and R94 give; a detach run
that reaches its time fires once and is disarmed. A sample without power-good, XF or rail event does nothing
more; after any sample the kept XF levels are those of the sample, and of the tables only qualified levels have
changed, by a complete run, and claims, by a detach with RELEASE. The model's reading: the flags of passed events (log 4), the count kept while disarmed (log 27), that a
complete run stands until its event (log 28) (R4, R59, R72, R74, R75, R94 to R96, R113). -/
def Obligations.SampleIsKept : Prop :=
  ∀ (x : Sample) (s : State), s.isLoading = false →
    let k : State := s.keepSample x
    (k = { s with sense := k.sense, enables := k.enables, rails := k.rails } ∧
      k.rail .a = { s.rail .a with good := x.railA } ∧ k.rail .b = { s.rail .b with good := x.railB } ∧
      (∀ j, k.line j = { s.line j with
        run := if 4 ≤ (s.line j).run then (s.line j).run
          else if look x.en j = (s.line j).qualified then 0 else (s.line j).run + 1 }) ∧
      ∀ c, (k.sen c).measured = look x.current c ∧
        (k.sen c).powerGood = (if (s.ctl c).state.closed = true ∧ look x.voltage c = .belowFall then false
          else if (s.ctl c).state.closed = true ∧ look x.voltage c = .atOrAboveRise then true
          else (s.sen c).powerGood) ∧
        (k.sen c).tripRun = (if (s.ctl c).state.closed = false then (s.sen c).tripRun
          else if (s.cfg c).tripThreshold * 10 < (look x.current c).toNat
            then (s.sen c).tripRun + 1 else 0) ∧
        ((k.sen c).tripPassed = true ↔ (s.sen c).tripPassed = true ∨
          (s.ctl c).state.closed = true ∧ (s.cfg c).tripFilter + 1 ≤ (k.sen c).tripRun) ∧
        (k.sen c).detachRun = (if (s.sen c).detachArmed = false then (s.sen c).detachRun
          else if (look x.current c).toNat < (s.cfg c).detachThreshold
            then (s.sen c).detachRun + 1 else 0) ∧
        ((k.sen c).detachPassed = true ↔ (s.sen c).detachPassed = true ∨
          (s.sen c).detachArmed = true ∧ (s.cfg c).detachTime * 10 ≤ (k.sen c).detachRun) ∧
        ((k.sen c).detachArmed = true ↔ (s.sen c).detachArmed = true ∧
          (k.sen c).detachRun < (s.cfg c).detachTime * 10)) ∧
    ((s.rail .a).good = x.railA → (s.rail .b).good = x.railB →
      x.xf = s.xf →
      (∀ c, (k.sen c).powerGood = (s.sen c).powerGood) →
      ∃ t, exec (.senseSample x) s = .next t ∧ t = { k with sense := t.sense } ∧
        ∀ c, t.sen c = { k.sen c with
          tripPassed := (k.sen c).tripPassed && decide ((s.ctl c).sub ≠ .blanking) }) ∧
    ∃ t, exec (.senseSample x) s = .next t ∧
      (∀ c, (t.sen c).measured = look x.current c) ∧ t.xf = x.xf ∧
      (t.rail .a).good = x.railA ∧ (t.rail .b).good = x.railB ∧
      (∀ j, t.line j = k.line j ∨
        4 ≤ (k.line j).run ∧ t.line j = ⟨!(k.line j).qualified, 0⟩) ∧
      (∀ c g, t.claimOf c g = s.claimOf c g ∨
        t.claimOf c g = none ∧ (s.cfg c).detachAction = .release) ∧
      KeepsTables { s with xf := t.xf, enables := t.enables, rails := t.rails, claims := t.claims } t ∧
      QueuesGrow s t

/-- A sample passes a power-good arrival or loss where the flag changes, an input event where a rail's level
changes; it sets the kept level of an XF line that it finds changed, and passes an assertion of one it finds high
to the controllers whose source names it. It takes each of these once, in a free order, an assertion after its
level, each whole with its examinations, so a grant may come before the level or after it; trips, detaches and complete enable runs may be taken among them
(logs 4, 7, 8), and a trip then left in BLANKING is ignored. An arrival in SOFTSTART enters ON, arms the detach
run if its threshold is not 0 and gives GRANTED; a loss in ON is a fault PG_LOST; an assertion of the source's
line in SOFTSTART or ON a fault EXTERNAL; elsewhere they are ignored. A rail's input moves its monitor as R114
gives (R59, R60, R62, R92, R95 to R98, R104, R113 to R115). -/
def Obligations.SenseEventsReachTheController : Prop :=
  (∀ (x : Sample) (s : State), s.isLoading = false →
    let kept : State := s.keepSample x
    (∀ c, .powerGoodArrival c ∈ s.sampleEvents x ↔ (s.ctl c).state.closed = true ∧
      (s.sen c).powerGood = false ∧ look x.voltage c = .atOrAboveRise) ∧
    (∀ c, .powerGoodLoss c ∈ s.sampleEvents x ↔ (s.ctl c).state.closed = true ∧
      (s.sen c).powerGood = true ∧ look x.voltage c = .belowFall) ∧
    (∀ k high, .xfLevel k high ∈ s.sampleEvents x ↔ look x.xf k = high ∧ look s.xf k ≠ high) ∧
    (∀ k c, .xfAssertion k c ∈ s.sampleEvents x ↔ look x.xf k = true ∧ look s.xf k = false ∧
      faultLine (s.cfg c).faultSource = some k) ∧
    (∀ r, .railGood r ∈ s.sampleEvents x ↔ (kept.rail r).good = true ∧ (s.rail r).good = false) ∧
    (∀ r, .railLost r ∈ s.sampleEvents x ↔ (kept.rail r).good = false ∧ (s.rail r).good = true) ∧
    ∃ (taken : List SenseEvent) (u t : State),
      (∀ e ∈ s.sampleEvents x, e ∈ taken) ∧
      taken.Subperm (s.sampleEvents x ++ kept.passedEvents) ∧
      (∀ k c before after, taken = before ++ .xfAssertion k c :: after → .xfLevel k true ∈ before) ∧
      TakenInTurn taken kept u ∧
      exec (.senseSample x) s = .next t ∧ t = { u with sense := t.sense } ∧
      ∀ c, t.sen c = { u.sen c with
        tripPassed := (u.sen c).tripPassed && decide ((u.ctl c).sub ≠ .blanking) }) ∧
  (∀ (c : Chan) (k : LineId) (s : State),
    (s.isLoading = false →
      exec (.tripEvent c) s = .next (State.settle s (s.takeSenseEvent (.trip c))) ∧
      exec (.detachEvent c) s = .next (State.settle s (s.takeSenseEvent (.detach c))) ∧
      exec (.enableEvent k) s = .next (State.settle s (s.takeSenseEvent (.enable k)))) ∧
    ((s.ctl c).state = .softstart → (s.sen c).powerGood = true →
      ∃ u, s.takeSenseEvent (.powerGoodArrival c) = u ∧
        u.ctl c = { s.ctl c with
          state := .isOn, sub := .noSub, softStart := none, blanking := none
          stable := some 1000 } ∧
        u.sen c = { s.sen c with
          detachArmed := (s.cfg c).detachThreshold ≠ 0, detachRun := 0, detachPassed := false } ∧
        (∀ j, j ≠ c → u.ctl j = s.ctl j ∧ u.sen j = s.sen j) ∧
        (∀ g, u.noticesOf g = if s.receives g c = true then
          appendNotice (s.noticesOf g)
            (channelRecord s g c (.granted (s.ctl c).chargedRail) .isOn)
          else s.noticesOf g) ∧
        u = { s with channels := u.channels, sense := u.sense, notices := u.notices }) ∧
    ((s.ctl c).state ≠ .softstart → s.takeSenseEvent (.powerGoodArrival c) = s) ∧
    ((s.ctl c).state = .isOn →
      FaultTaken s (s.takeSenseEvent (.powerGoodLoss c)) c .pgLost) ∧
    ((s.ctl c).state ≠ .isOn → s.takeSenseEvent (.powerGoodLoss c) = s) ∧
    (∀ high, s.takeSenseEvent (.xfLevel k high) = { s with xf := put s.xf k high }) ∧
    ((s.cfg c).faultSource = .xf k ∨ (s.cfg c).faultSource = .senseXf k →
      (s.ctl c).state = .softstart ∨ (s.ctl c).state = .isOn →
      FaultTaken s (s.takeSenseEvent (.xfAssertion k c)) c .external) ∧
    ((s.cfg c).faultSource ≠ .xf k → (s.cfg c).faultSource ≠ .senseXf k →
      s.takeSenseEvent (.xfAssertion k c) = s) ∧
    ((s.ctl c).state ≠ .softstart → (s.ctl c).state ≠ .isOn →
      s.takeSenseEvent (.xfAssertion k c) = s)) ∧
  ∀ (r : Rail) (s : State),
    ((s.rail r).state = .down → s.takeSenseEvent (.railGood r) = s.setRail r { s.rail r with
      state := .rising, restoreTimer := some ((s.config.rails.of r).restoreQual * 10) }) ∧
    ((s.rail r).state = .falling → s.takeSenseEvent (.railGood r) = s.setRail r { s.rail r with
      state := .up, lossTimer := none }) ∧
    ((s.rail r).state = .rising → s.takeSenseEvent (.railLost r) = s.setRail r { s.rail r with
      state := .down, restoreTimer := none }) ∧
    ((s.rail r).state = .up → (s.config.rails.of r).lossQual ≠ 0 →
      s.takeSenseEvent (.railLost r) = s.setRail r { s.rail r with
        state := .falling, lossTimer := some (s.config.rails.of r).lossQual }) ∧
    ((s.rail r).state = .up → (s.config.rails.of r).lossQual = 0 →
      s.takeSenseEvent (.railLost r) =
        (s.setRail r { s.rail r with state := .falling, lossTimer := none }).loseRail r)

/-- A passed trip is a fault OVERCURRENT where the fault source includes SENSE and the channel is ON or past
blanking, and is ignored in other states and under every other source; a soft-start expiry in SOFTSTART is a
fault SOFTSTART_TIMEOUT under every source. The examinations come once the fault, cascade included, is whole (log 8); the flag of a passed trip is
the model's (log 4) (R58, R92, R95, R99 to R103). -/
def Obligations.TripsAndTimeoutsAreFaults : Prop :=
  ∀ (c : Chan) (s : State), s.isLoading = false →
    ((s.sen c).tripPassed = true →
      ((∃ k, (s.cfg c).faultSource = .senseXf k) ∨ (s.cfg c).faultSource = .sense →
        (s.ctl c).state = .isOn ∨ (s.ctl c).state = .softstart ∧ (s.ctl c).sub = .ramp →
        ∃ u, exec (.tripEvent c) s = .next (State.settle s u) ∧ FaultTaken s u c .overcurrent) ∧
      ((s.ctl c).state ≠ .isOn → (s.ctl c).state ≠ .softstart ∨ (s.ctl c).sub ≠ .ramp →
        exec (.tripEvent c) s = .next (s.setSen c { s.sen c with tripPassed := false })) ∧
      ((s.cfg c).faultSource ≠ .sense → (∀ k, (s.cfg c).faultSource ≠ .senseXf k) →
        exec (.tripEvent c) s = .next (s.setSen c { s.sen c with tripPassed := false }))) ∧
    ((s.ctl c).softStart = some 0 → (s.ctl c).state = .softstart →
      ∃ u, exec (.softStartExpiry c) s = .next (State.settle s u) ∧
        FaultTaken s u c .softstartTimeout)

/-- A complete run changes the line's qualified level, and demand is brought to the formulas before the
examinations (R4, R15; logs 8 and 28). -/
def Obligations.EnableEventChangesTheLevel : Prop :=
  ∀ (k : LineId) (s : State), s.isLoading = false → 4 ≤ (s.line k).run →
    ∃ u, exec (.enableEvent k) s = .next (State.settle s u) ∧
      (∀ j, u.line j = if j = k then ⟨!(s.line k).qualified, 0⟩ else s.line j) ∧
      (∀ c, u.dem c = u.demandNow c) ∧
      KeepsTables { s with enables := u.enables } u ∧ QueuesGrow s u

/-- A passed detach in ON gives DETACHED. With NOTIFY nothing else changes; with RELEASE every claim on the
channel is then removed, no other claim is, and demand is brought to the formulas: the channel stops if it
had demand and has lost it. Outside ON it is ignored. The flag of a passed detach is the model's (log 4) (R20, R73, R74). -/
def Obligations.DetachNotifiesOrReleases : Prop :=
  ∀ (c : Chan) (s : State), s.isLoading = false → (s.sen c).detachPassed = true →
    let seen : State := s.setSen c { s.sen c with detachPassed := false }
    ((s.ctl c).state ≠ .isOn → exec (.detachEvent c) s = .next seen) ∧
    ((s.ctl c).state = .isOn → (s.cfg c).detachAction = .notify →
      ∃ t, exec (.detachEvent c) s = .next t ∧
        t = { seen with notices := t.notices } ∧
        ∀ g, t.noticesOf g = if s.receives g c = true then
          appendNotice (s.noticesOf g) (channelRecord s g c (.detached .notify) .isOn)
          else s.noticesOf g) ∧
    ((s.ctl c).state = .isOn → (s.cfg c).detachAction = .release →
      ∃ u, exec (.detachEvent c) s = .next (State.settle s u) ∧
        (∀ k g, u.claimOf k g = if k = c then none else s.claimOf k g) ∧
        (∀ k, u.dem k = u.demandNow k) ∧
        (∀ g, s.receives g c = true →
          NextRecord s u g (channelRecord s g c (.detached .release) .isOn)) ∧
        (ForestLaw s.config → (s.dem c).effective = true → (u.dem c).effective = false →
          (u.ctl c).state.charged = false) ∧
        KeepsTables { s with claims := u.claims } u ∧ QueuesGrow s u)

/-! ### Timers -/

/-- Blanking expiry in SOFTSTART: RAMP, and nothing else; stable expiry in ON: retry count 0, and nothing else.
The waits end: a discharge expiry in STOPPING, and the later of discharge and back-off expiry in
RETRY_WAIT, take the channel to QUEUED with the next admission number and the priority in force if it is
wanted and ENABLED, keeping its retry count, and otherwise to OFF with count 0. The earlier of the two, and a
discharge expiry in LATCHED or RETIRED, only stop the timer (R30, R54, R55, R58,
R63, R67, R105, R106, R108). -/
def Obligations.ChannelTimersExpire : Prop :=
  ∀ (c : Chan) (s : State), s.isLoading = false →
    let stopped : Controller := { s.ctl c with discharge := none, backoff := none }
    let queued : State := { s.setCtl c { stopped with state := .queued } with
      queue := insertBy QueueEntry.precedes ⟨c, (s.dem c).priority, s.admissionCounter⟩ s.queue
      admissionCounter := s.admissionCounter + 1 }
    let off : State :=
      s.setCtl c { stopped with state := .off, retryCount := 0, chargedRail := none }
    let ended : State :=
      if (s.ctl c).demand = true ∧ (s.cfg c).admin = .enabled then queued else off
    ((s.ctl c).blanking = some 0 → (s.ctl c).state = .softstart →
      exec (.blankingExpiry c) s =
        .next (s.setCtl c { s.ctl c with sub := .ramp, blanking := none })) ∧
    ((s.ctl c).stable = some 0 → (s.ctl c).state = .isOn →
      exec (.stableExpiry c) s =
        .next (s.setCtl c { s.ctl c with retryCount := 0, stable := none })) ∧
    ((s.ctl c).discharge = some 0 → (s.ctl c).backoff = none →
      (s.ctl c).state = .stopping ∨ (s.ctl c).state = .retryWait →
      exec (.dischargeExpiry c) s = .next (State.settle s ended)) ∧
    ((s.ctl c).backoff = some 0 → (s.ctl c).discharge = none → (s.ctl c).state = .retryWait →
      exec (.backoffExpiry c) s = .next (State.settle s ended)) ∧
    ((s.ctl c).discharge = some 0 → (s.ctl c).state = .retryWait → (s.ctl c).backoff ≠ none →
      exec (.dischargeExpiry c) s = .next (s.setCtl c { s.ctl c with discharge := none })) ∧
    ((s.ctl c).backoff = some 0 → (s.ctl c).state = .retryWait → (s.ctl c).discharge ≠ none →
      exec (.backoffExpiry c) s = .next (s.setCtl c { s.ctl c with backoff := none })) ∧
    ((s.ctl c).discharge = some 0 → (s.ctl c).state = .latched ∨ (s.ctl c).state = .retired →
      exec (.dischargeExpiry c) s = .next (s.setCtl c { s.ctl c with discharge := none }))

/-- The dead-time expiry in SWITCHOVER enters SOFTSTART on the charged rail with no new grant: timers started,
BLANKING, or RAMP with blanking 0. With fault source FORCED, or an XF line of the source asserted, the fault
is taken within the event (R57, R93, R97, R126). -/
def Obligations.DeadTimeEndsInSoftStart : Prop :=
  ∀ (c : Chan) (s : State), s.isLoading = false → (s.ctl c).deadTime = some 0 →
    (s.ctl c).state = .switchover →
    (s.entryFault c = none → exec (.deadTimeExpiry c) s = .next (State.settle s
      (s.setCtl c { s.ctl c with
        state := .softstart, deadTime := none
        sub := if (s.cfg c).blanking = 0 then .ramp else .blanking
        softStart := some (s.cfg c).softStart
        blanking := if (s.cfg c).blanking = 0 then none else some (s.cfg c).blanking }))) ∧
    ((s.cfg c).faultSource = .forced →
      ∃ u, exec (.deadTimeExpiry c) s = .next (State.settle s u) ∧ FaultTaken s u c .forced) ∧
    (∀ k, (s.cfg c).faultSource = .xf k ∨ (s.cfg c).faultSource = .senseXf k →
      look s.xf k = true →
      ∃ u, exec (.deadTimeExpiry c) s = .next (State.settle s u) ∧ FaultTaken s u c .external)

/-- The restore expiry in RISING brings the rail UP and gives RAIL with cause UP to every OPEN host before the
examinations (R114, R116). -/
def Obligations.RestoreExpiryBringsTheRailUp : Prop :=
  ∀ (r : Rail) (s : State), s.isLoading = false → (s.rail r).restoreTimer = some 0 →
    (s.rail r).state = .rising →
    ∃ u, exec (.restoreExpiry r) s = .next (State.settle s u) ∧
      u.rail r = { s.rail r with state := .up, restoreTimer := none } ∧
      u.rail r.other = s.rail r.other ∧
      (∀ g, u.noticesOf g = if (s.port g).session = .opened then
        appendNotice (s.noticesOf g)
          { report := .railUp r, logical := none, newState := none, tag := 0
            time := s.deviceTime, lostAfter := false }
        else s.noticesOf g) ∧
      u = { s with rails := u.rails, notices := u.notices }

/-- The loss expiry in FALLING takes the rail DOWN and every charge off it, channel by channel by priority
descending and grant number ascending: each stands in SWITCHOVER with a charge on the other rail, or is charged
to none. RAIL with cause DOWN closes the records of every OPEN host; the examinations come after. At its turn a
channel moves, class and grant number kept, after the victims it needs are shed, if its feed has the other rail,
that is UP and it fits there; otherwise it stops with RAIL_LOST; one no longer charged is passed over. At a turn
the lost rail is already DOWN, so the law of the charges is asked of the state with that rail put back to FALLING
(R116, R119 to R124). -/
def Obligations.LossExpiryTakesEveryChargeOff : Prop :=
  (∀ (r : Rail) (s : State), s.isLoading = false → (s.rail r).lossTimer = some 0 →
    (s.rail r).state = .falling →
    ∃ u, exec (.lossExpiry r) s = .next (State.settle s u) ∧
      u.rail r = { s.rail r with state := .down, lossTimer := none } ∧
      u.rail r.other = s.rail r.other ∧
      (u.account r).charges = [] ∧
      (∀ x ∈ (s.account r).charges,
        ((u.ctl x.chan).state = .switchover ∧ (u.ctl x.chan).chargedRail = some r.other ∧
          ∃ y ∈ (u.account r.other).charges, y.chan = x.chan) ∨ Uncharged u x.chan) ∧
      (∀ g, (s.port g).session = .opened → (u.noticesOf g).length < 32 →
        (u.noticesOf g).getLast? = some
          { report := .railDown r, logical := none, newState := none, tag := 0
            time := s.deviceTime, lostAfter := false }) ∧
      u.grantCounter = s.grantCounter ∧
      KeepsTables { s with rails := u.rails } u ∧ QueuesGrow s u ∧
      ∃ order : List LossEntry, (order.map LossEntry.charge).Perm (s.account r).charges ∧
        (∀ x ∈ order, x.priority = (s.dem x.charge.chan).priority) ∧
        order.Pairwise (fun x y => ¬ (x.priority < y.priority ∨
          x.priority = y.priority ∧ y.charge.grantNumber < x.charge.grantNumber)) ∧
        u = (order.foldl (fun v x => v.takeLoss r x)
          (s.setRail r { s.rail r with state := .down, lossTimer := none })).reportRail
            (.railDown r)) ∧
  ∀ (r : Rail) (x : LossEntry) (s : State),
    (x.charge ∉ (s.account r).charges → s.takeLoss r x = s) ∧
    (x.charge ∈ (s.account r).charges →
      AllocationLaw (s.setRail r { s.rail r with state := .falling }) → ForestLaw s.config →
      let c : Chan := x.charge.chan
      let t : State := s.takeLoss r x
      let mayMove : Prop := (s.rail r.other).state = .up ∧
        ((s.cfg c).feed = .aThenB ∨ (s.cfg c).feed = .bThenA ∨
          (s.cfg c).feed = .aOnly ∧ r = .b ∨ (s.cfg c).feed = .bOnly ∧ r = .a)
      (∀ v, mayMove → s.victims r.other x.priority x.charge.classAU = some v →
        (t.ctl c).state = .switchover ∧ (t.ctl c).chargedRail = some r.other ∧
        (t.ctl c).grantNumber = (s.ctl c).grantNumber ∧ (t.ctl c).retryCount = (s.ctl c).retryCount ∧
        (t.ctl c).softStart = none ∧ (t.ctl c).stable = none ∧ (t.ctl c).blanking = none ∧
        (t.ctl c).deadTime = some (s.cfg c).deadTime ∧
        x.charge ∈ (t.account r.other).charges ∧ (∀ y ∈ (t.account r).charges, y.chan ≠ c) ∧
        (∀ y ∈ v, (t.ctl y.chan).state.charged = false) ∧
        (∀ g, v = [] → s.receives g c = true →
          NextRecord s t g (channelRecord s g c (.switched r r.other) .switchover)) ∧
        ((s.ctl c).state = .isOn →
          ∀ k, (s.cfg k).parent = some c → (t.ctl k).state.charged = false) ∧
        KeepsTables s t ∧ QueuesGrow s t) ∧
      ((¬ mayMove ∨ s.victims r.other x.priority x.charge.classAU = none) →
        StopTaken s t c .railLost))

/-! ### Admission, preemption and the stop -/

/-- A grant takes the entry out of the queue, gives the next grant number, places the charge, and starts the
channel in SOFTSTART on the rail; with fault source FORCED, or an XF line of the source asserted, the fault is
taken within the event. The examinations after an event that changed what the Budget Arbiter reads are grants,
one after another, each of a rail's candidate after just the victims of R42 are shed; after fewer than 64 of them
no rail has a candidate that could be granted. That they come once the event is whole is log 8, that no event
brings 64 is log 9, the free order of the two rails is log 7 (R33, R34, R36 to R38, R43, R57, R93, R97). -/
def Obligations.GrantChargesAndStarts : Prop :=
  (∀ (c : Chan) (r : Rail) (s : State),
    (s.entryFault c = none →
      ∃ t, s.grant c r = t ∧
        t.queue = (s.queue.filter fun e => e.chan ≠ c) ∧ t.grantCounter = s.grantCounter + 1 ∧
        t.account r = { s.account r with
          charges := insertBy Charge.precedes ⟨c, (s.cfg c).classAU, s.grantCounter⟩
            (s.account r).charges } ∧
        t.account r.other = s.account r.other ∧
        t.ctl c = { s.ctl c with
          state := .softstart, chargedRail := some r, grantNumber := s.grantCounter
          deadTime := none, sub := if (s.cfg c).blanking = 0 then .ramp else .blanking
          softStart := some (s.cfg c).softStart
          blanking := if (s.cfg c).blanking = 0 then none else some (s.cfg c).blanking } ∧
        (∀ k, k ≠ c → t.ctl k = s.ctl k) ∧
        t = { s with
          queue := t.queue, grantCounter := t.grantCounter, accounts := t.accounts
          channels := t.channels }) ∧
    ((s.cfg c).faultSource = .forced → (s.ctl c).state = .queued →
      FaultTaken s (s.grant c r) c .forced ∧ (s.grant c r).grantCounter = s.grantCounter + 1) ∧
    (∀ k, (s.cfg c).faultSource = .xf k ∨ (s.cfg c).faultSource = .senseXf k →
      look s.xf k = true → (s.ctl c).state = .queued →
      FaultTaken s (s.grant c r) c .external ∧
        (s.grant c r).grantCounter = s.grantCounter + 1)) ∧
  ∀ before after : State,
    (after.budgetView = before.budgetView → State.settle before after = after) ∧
    (after.budgetView ≠ before.budgetView →
      ∃ n, Examined n after (State.settle before after) ∧
        (n < 64 → ∀ r e, IsCandidate (State.settle before after) r e →
          (State.settle before after).victims r e.priority
            ((State.settle before after).cfg e.chan).classAU = none))

/-- The victims of R42: charges of the rail whose channels are in SOFTSTART or ON, have no active child and
stand strictly below the requester, taken by priority ascending and then by grant number descending, just as
many as make the free budget reach the need; none where all of them together do not (R40 to R42). -/
def Obligations.VictimsAreTheFirstThatSuffice : Prop :=
  ∀ (r : Rail) (p need : Nat) (s : State),
    let allowed (x : Charge) : Prop :=
      x ∈ (s.account r).charges ∧
      ((s.ctl x.chan).state = .softstart ∨ (s.ctl x.chan).state = .isOn) ∧
      (∀ k, (s.cfg k).parent = some x.chan → (s.ctl k).state.active = false) ∧
      (s.dem x.chan).priority < p
    let before (x y : Charge) : Prop :=
      (s.dem x.chan).priority < (s.dem y.chan).priority ∨
        ((s.dem x.chan).priority = (s.dem y.chan).priority ∧ y.grantNumber < x.grantNumber)
    (∀ v, s.victims r p need = some v →
      (∀ x ∈ v, allowed x) ∧
      need ≤ (s.account r).free + chargeSum v ∧
      (v ≠ [] → (s.account r).free + chargeSum v.dropLast < need) ∧
      v.Pairwise (fun x y => ¬ before y x) ∧
      ∀ x ∈ v, ∀ y, allowed y → y ∉ v → ¬ before y x) ∧
    (s.victims r p need = none → ∀ l : List Charge, l.Nodup → (∀ x ∈ l, allowed x) →
      (s.account r).free + chargeSum l < need)

/-- A stop of a charged channel opens its switches, returns its charge, starts its discharge, gives STOPPED
first, and if the channel was ON leaves no child of it charged. The switches stand as R50's table gives for
every state (R26, R50, R52, R65, R67, R84, R85). -/
def Obligations.StopReturnsTheCharge : Prop :=
  (∀ (c : Chan) (cause : StopCause) (s : State), (s.ctl c).state.charged = true →
    StopTaken s (s.stop cause c) c cause ∧ ∀ r, (s.stop cause c).railSwitch c r = false) ∧
  ∀ (c : Chan) (s : State), s.isLoading = false →
    (∀ r, s.railSwitch c r = true ↔
      ((s.ctl c).state = .softstart ∨ (s.ctl c).state = .isOn) ∧ (s.ctl c).chargedRail = some r) ∧
    (s.dischargeSwitch c = true ↔ (s.ctl c).state = .stopping ∨
      ((s.ctl c).state = .retryWait ∨ (s.ctl c).state = .latched ∨ (s.ctl c).state = .retired) ∧
        (s.ctl c).discharge ≠ none)

/-! ### The laws of the manual, kept by every step -/

/-- Every step keeps: while Profile Memory loads, every block other than it and the port receivers stands at its
reset value (R199; where no chapter gives one, the model's choice of logs 12 and 23). -/
def Obligations.LoadingLawIsKept : Prop :=
  ∀ s t : State, LoadingLaw s → step s = .next t → LoadingLaw t

/-- Every step keeps: a notice queue holds at most 32 records and is empty outside OPEN, and the lock's holder has
an OPEN session with a non-zero lease (R161, R172). -/
def Obligations.NoticeAndLockLawsAreKept : Prop :=
  ∀ s t : State, step s = .next t →
    (NoticeLaw s → NoticeLaw t) ∧ (LockLaw s → LockLaw t)

/-- Every step keeps: the charges of a rail never exceed its limit, and each account's limit is that of the
rail's record (R25). -/
def Obligations.BudgetLawIsKept : Prop :=
  ∀ s t : State, LoadingLaw s → BudgetLaw s → step s = .next t →
    BudgetLaw t ∧ (LimitLaw s → LimitLaw t)

/-- Every step keeps: the live configuration, the slots and the snapshot hold records in range with the three
cross-field conditions, injective views, and a forest of at most four levels without RETIRED parents (R77,
R131, R144, R147). -/
def Obligations.ConfigurationLawIsKept : Prop :=
  ∀ s t : State, s.everyConfiguration ConfigurationLaw → step s = .next t →
    t.everyConfiguration ConfigurationLaw

/-- Every step keeps: a claim stands only on a mapped, not RETIRED channel under ANY or ALL with its host in the
claimant set, ACTIVE in OPEN and ORPHANED in LAPSED (R1, R2). -/
def Obligations.ClaimLawIsKept : Prop :=
  ∀ s t : State, LoadingLaw s → ClaimLaw s → step s = .next t → ClaimLaw t

/-- Every step keeps: a queue entry exactly while QUEUED, in the order of R29 and with a number of its own; one
charge exactly while in SOFTSTART, ON or SWITCHOVER, on a rail that is UP or FALLING, in the order of grant
numbers (R25, R26, R28 to R30, R38). -/
def Obligations.AllocationLawIsKept : Prop :=
  ∀ s t : State, LoadingLaw s → AllocationLaw s → step s = .next t → AllocationLaw t

/-- Every step keeps: a LATCHED channel's count is its limit plus one, every other count is at most the limit
(R101). -/
def Obligations.RetryLawIsKept : Prop :=
  ∀ s t : State, LoadingLaw s → AllocationLaw s → RetryLaw s → step s = .next t → RetryLaw t

/-- Every step keeps: demand and priority are those of the formulas, and each controller's demand item is its
channel's effective demand; where that holds, a channel that waits, runs or is to be retried is ENABLED and has
effective demand, an ENABLED channel in OFF has none (so the demand that a CLAIM or an enable event brings to it
queues it), and an entry carries the priority in force (R10 to R16, R28, R32, R49, R54, R55, R105). -/
def Obligations.DemandLawsAreKept : Prop :=
  ∀ s t : State, LoadingLaw s → s.everyConfiguration ConfigurationLaw → AllocationLaw s →
    DemandLaw s → step s = .next t → DemandLaw t ∧ (WantedLaw s → WantedLaw t)

/-- Every step keeps: a channel in SOFTSTART, ON or SWITCHOVER has no parent or a parent in ON (R82). -/
def Obligations.ParentLawIsKept : Prop :=
  ∀ s t : State, LoadingLaw s → s.everyConfiguration ConfigurationLaw → AllocationLaw s →
    DemandLaw s → WantedLaw s → ParentLaw s → step s = .next t → ParentLaw t

/-- Every step keeps: the current slot is valid and holds the current generation, and a commit's target is
erased, invalid and never the current slot (R198, R199, R201, R203). -/
def Obligations.ProfileLawIsKept : Prop :=
  ∀ s t : State, ProfileLaw s → step s = .next t → ProfileLaw t

/-- Every law holds right after reset. The values log 12, 13 and 23 choose take part. -/
def Obligations.ResetMeetsTheLaws : Prop :=
  LoadingLaw State.reset ∧ NoticeLaw State.reset ∧ LockLaw State.reset ∧ BudgetLaw State.reset ∧
    LimitLaw State.reset ∧
    State.reset.everyConfiguration ConfigurationLaw ∧ ClaimLaw State.reset ∧
    AllocationLaw State.reset ∧ RetryLaw State.reset ∧ DemandLaw State.reset ∧
    WantedLaw State.reset ∧ ParentLaw State.reset ∧ ProfileLaw State.reset
end

