-- ==== Sys2Proof/Laws/State.lean ====
section
/-! SUPPORT. What each reader answers after each writer of State: one simp lemma per field and per writer. -/

namespace Sys2Proof

/-! ### Tables and pairs -/

@[simp] theorem look_put_self {α : Type} {n : Nat} (t : Vector α n) (i : Fin n) (x : α) :
    look (put t i x) i = x := by simp [look, put]

@[simp] theorem look_put_ne {α : Type} {n : Nat} (t : Vector α n) (i j : Fin n) (x : α) (h : i ≠ j) :
    look (put t i x) j = look t j := by
  simp [look, put, Vector.getElem_set_ne, Fin.val_ne_of_ne h]

theorem look_put {α : Type} {n : Nat} (t : Vector α n) (i j : Fin n) (x : α) :
    look (put t i x) j = if j = i then x else look t j := by
  by_cases h : j = i
  · subst h; simp
  · simp [h, look_put_ne t i j x (Ne.symm h)]

@[simp] theorem look_tabulate {α : Type} {n : Nat} (f : Fin n → α) (i : Fin n) :
    look (tabulate f) i = f i := by simp [look, tabulate]

@[simp] theorem look_replicate {α : Type} {n : Nat} (x : α) (i : Fin n) :
    look (Vector.replicate n x) i = x := by simp [look]

@[simp] theorem tabulate_look {α : Type} {n : Nat} (t : Vector α n) : tabulate (look t) = t := by
  ext i h; simp [look, tabulate]

@[simp] theorem put_look {α : Type} {n : Nat} (t : Vector α n) (i : Fin n) : put t i (look t i) = t := by
  simp [look, put]

@[simp] theorem put_put {α : Type} {n : Nat} (t : Vector α n) (i : Fin n) (x y : α) :
    put (put t i x) i y = put t i y := by simp [put]

/-- Two tables with the same entries are the same table. -/
theorem table_ext {α : Type} {n : Nat} {t u : Vector α n} (h : ∀ i, look t i = look u i) : t = u := by
  rw [← tabulate_look t, ← tabulate_look u]; exact congrArg tabulate (funext h)

@[simp] theorem PerRail.of_setOf_self {α : Type} (p : PerRail α) (r : Rail) (x : α) :
    (p.setOf r x).of r = x := by cases r <;> rfl

@[simp] theorem PerRail.of_setOf_other {α : Type} (p : PerRail α) (r : Rail) (x : α) :
    (p.setOf r x).of r.other = p.of r.other := by cases r <;> rfl

theorem PerRail.of_setOf {α : Type} (p : PerRail α) (r q : Rail) (x : α) :
    (p.setOf r x).of q = if q = r then x else p.of q := by cases r <;> cases q <;> rfl

theorem Rail.forall_iff {P : Rail → Prop} : (∀ r, P r) ↔ P .a ∧ P .b :=
  ⟨fun h => ⟨h .a, h .b⟩, fun h r => by cases r; exact h.1; exact h.2⟩

theorem Rail.exists_iff {P : Rail → Prop} : (∃ r, P r) ↔ P .a ∨ P .b :=
  ⟨fun ⟨r, h⟩ => by cases r; exact .inl h; exact .inr h, fun h => h.elim (fun h => ⟨.a, h⟩) fun h => ⟨.b, h⟩⟩

@[simp] theorem Rail.other_ne (r : Rail) : r.other ≠ r := by cases r <;> decide

@[simp] theorem Rail.other_other (r : Rail) : r.other.other = r := by cases r <;> rfl

namespace Machine

/-! ### After setPort -/

@[simp] theorem State.setPort_pm (s : State) (i : HostId) (x : Port) : (s.setPort i x).pm = s.pm := rfl
@[simp] theorem State.setPort_deviceTime (s : State) (i : HostId) (x : Port) : (s.setPort i x).deviceTime = s.deviceTime := rfl
@[simp] theorem State.setPort_config (s : State) (i : HostId) (x : Port) : (s.setPort i x).config = s.config := rfl
@[simp] theorem State.setPort_lock (s : State) (i : HostId) (x : Port) : (s.setPort i x).lock = s.lock := rfl
@[simp] theorem State.setPort_claims (s : State) (i : HostId) (x : Port) : (s.setPort i x).claims = s.claims := rfl
@[simp] theorem State.setPort_demand (s : State) (i : HostId) (x : Port) : (s.setPort i x).demand = s.demand := rfl
@[simp] theorem State.setPort_queue (s : State) (i : HostId) (x : Port) : (s.setPort i x).queue = s.queue := rfl
@[simp] theorem State.setPort_admissionCounter (s : State) (i : HostId) (x : Port) : (s.setPort i x).admissionCounter = s.admissionCounter := rfl
@[simp] theorem State.setPort_grantCounter (s : State) (i : HostId) (x : Port) : (s.setPort i x).grantCounter = s.grantCounter := rfl
@[simp] theorem State.setPort_accounts (s : State) (i : HostId) (x : Port) : (s.setPort i x).accounts = s.accounts := rfl
@[simp] theorem State.setPort_channels (s : State) (i : HostId) (x : Port) : (s.setPort i x).channels = s.channels := rfl
@[simp] theorem State.setPort_sense (s : State) (i : HostId) (x : Port) : (s.setPort i x).sense = s.sense := rfl
@[simp] theorem State.setPort_xf (s : State) (i : HostId) (x : Port) : (s.setPort i x).xf = s.xf := rfl
@[simp] theorem State.setPort_enables (s : State) (i : HostId) (x : Port) : (s.setPort i x).enables = s.enables := rfl
@[simp] theorem State.setPort_rails (s : State) (i : HostId) (x : Port) : (s.setPort i x).rails = s.rails := rfl
@[simp] theorem State.setPort_notices (s : State) (i : HostId) (x : Port) : (s.setPort i x).notices = s.notices := rfl
@[simp] theorem State.setPort_draws (s : State) (i : HostId) (x : Port) : (s.setPort i x).draws = s.draws := rfl
@[simp] theorem State.setPort_pending (s : State) (i : HostId) (x : Port) : (s.setPort i x).pending = s.pending := rfl
@[simp] theorem State.setPort_ctl (s : State) (i : HostId) (x : Port) (k : Chan) :
    (s.setPort i x).ctl k = s.ctl k := rfl
@[simp] theorem State.setPort_sen (s : State) (i : HostId) (x : Port) (k : Chan) :
    (s.setPort i x).sen k = s.sen k := rfl
@[simp] theorem State.setPort_cfg (s : State) (i : HostId) (x : Port) (k : Chan) :
    (s.setPort i x).cfg k = s.cfg k := rfl
@[simp] theorem State.setPort_claimOf (s : State) (i : HostId) (x : Port) (k : Chan) (g : HostId) :
    (s.setPort i x).claimOf k g = s.claimOf k g := rfl
@[simp] theorem State.setPort_dem (s : State) (i : HostId) (x : Port) (k : Chan) :
    (s.setPort i x).dem k = s.dem k := rfl
@[simp] theorem State.setPort_account (s : State) (i : HostId) (x : Port) (r : Rail) :
    (s.setPort i x).account r = s.account r := rfl
@[simp] theorem State.setPort_rail (s : State) (i : HostId) (x : Port) (r : Rail) :
    (s.setPort i x).rail r = s.rail r := rfl
@[simp] theorem State.setPort_line (s : State) (i : HostId) (x : Port) (k : LineId) :
    (s.setPort i x).line k = s.line k := rfl
@[simp] theorem State.setPort_noticesOf (s : State) (i : HostId) (x : Port) (g : HostId) :
    (s.setPort i x).noticesOf g = s.noticesOf g := rfl
@[simp] theorem State.setPort_viewEntry (s : State) (i : HostId) (x : Port) (g : HostId) (l : Chan) :
    (s.setPort i x).viewEntry g l = s.viewEntry g l := rfl
@[simp] theorem State.setPort_isLoading (s : State) (i : HostId) (x : Port) :
    (s.setPort i x).isLoading = s.isLoading := rfl

/-! ### After setCtl -/

@[simp] theorem State.setCtl_pm (s : State) (i : Chan) (x : Controller) : (s.setCtl i x).pm = s.pm := rfl
@[simp] theorem State.setCtl_deviceTime (s : State) (i : Chan) (x : Controller) : (s.setCtl i x).deviceTime = s.deviceTime := rfl
@[simp] theorem State.setCtl_config (s : State) (i : Chan) (x : Controller) : (s.setCtl i x).config = s.config := rfl
@[simp] theorem State.setCtl_lock (s : State) (i : Chan) (x : Controller) : (s.setCtl i x).lock = s.lock := rfl
@[simp] theorem State.setCtl_ports (s : State) (i : Chan) (x : Controller) : (s.setCtl i x).ports = s.ports := rfl
@[simp] theorem State.setCtl_claims (s : State) (i : Chan) (x : Controller) : (s.setCtl i x).claims = s.claims := rfl
@[simp] theorem State.setCtl_demand (s : State) (i : Chan) (x : Controller) : (s.setCtl i x).demand = s.demand := rfl
@[simp] theorem State.setCtl_queue (s : State) (i : Chan) (x : Controller) : (s.setCtl i x).queue = s.queue := rfl
@[simp] theorem State.setCtl_admissionCounter (s : State) (i : Chan) (x : Controller) : (s.setCtl i x).admissionCounter = s.admissionCounter := rfl
@[simp] theorem State.setCtl_grantCounter (s : State) (i : Chan) (x : Controller) : (s.setCtl i x).grantCounter = s.grantCounter := rfl
@[simp] theorem State.setCtl_accounts (s : State) (i : Chan) (x : Controller) : (s.setCtl i x).accounts = s.accounts := rfl
@[simp] theorem State.setCtl_sense (s : State) (i : Chan) (x : Controller) : (s.setCtl i x).sense = s.sense := rfl
@[simp] theorem State.setCtl_xf (s : State) (i : Chan) (x : Controller) : (s.setCtl i x).xf = s.xf := rfl
@[simp] theorem State.setCtl_enables (s : State) (i : Chan) (x : Controller) : (s.setCtl i x).enables = s.enables := rfl
@[simp] theorem State.setCtl_rails (s : State) (i : Chan) (x : Controller) : (s.setCtl i x).rails = s.rails := rfl
@[simp] theorem State.setCtl_notices (s : State) (i : Chan) (x : Controller) : (s.setCtl i x).notices = s.notices := rfl
@[simp] theorem State.setCtl_draws (s : State) (i : Chan) (x : Controller) : (s.setCtl i x).draws = s.draws := rfl
@[simp] theorem State.setCtl_pending (s : State) (i : Chan) (x : Controller) : (s.setCtl i x).pending = s.pending := rfl
@[simp] theorem State.setCtl_port (s : State) (i : Chan) (x : Controller) (h : HostId) :
    (s.setCtl i x).port h = s.port h := rfl
@[simp] theorem State.setCtl_sen (s : State) (i : Chan) (x : Controller) (k : Chan) :
    (s.setCtl i x).sen k = s.sen k := rfl
@[simp] theorem State.setCtl_cfg (s : State) (i : Chan) (x : Controller) (k : Chan) :
    (s.setCtl i x).cfg k = s.cfg k := rfl
@[simp] theorem State.setCtl_claimOf (s : State) (i : Chan) (x : Controller) (k : Chan) (g : HostId) :
    (s.setCtl i x).claimOf k g = s.claimOf k g := rfl
@[simp] theorem State.setCtl_dem (s : State) (i : Chan) (x : Controller) (k : Chan) :
    (s.setCtl i x).dem k = s.dem k := rfl
@[simp] theorem State.setCtl_account (s : State) (i : Chan) (x : Controller) (r : Rail) :
    (s.setCtl i x).account r = s.account r := rfl
@[simp] theorem State.setCtl_rail (s : State) (i : Chan) (x : Controller) (r : Rail) :
    (s.setCtl i x).rail r = s.rail r := rfl
@[simp] theorem State.setCtl_line (s : State) (i : Chan) (x : Controller) (k : LineId) :
    (s.setCtl i x).line k = s.line k := rfl
@[simp] theorem State.setCtl_noticesOf (s : State) (i : Chan) (x : Controller) (g : HostId) :
    (s.setCtl i x).noticesOf g = s.noticesOf g := rfl
@[simp] theorem State.setCtl_viewEntry (s : State) (i : Chan) (x : Controller) (g : HostId) (l : Chan) :
    (s.setCtl i x).viewEntry g l = s.viewEntry g l := rfl
@[simp] theorem State.setCtl_isLoading (s : State) (i : Chan) (x : Controller) :
    (s.setCtl i x).isLoading = s.isLoading := rfl

/-! ### After setSen -/

@[simp] theorem State.setSen_pm (s : State) (i : Chan) (x : ChannelSense) : (s.setSen i x).pm = s.pm := rfl
@[simp] theorem State.setSen_deviceTime (s : State) (i : Chan) (x : ChannelSense) : (s.setSen i x).deviceTime = s.deviceTime := rfl
@[simp] theorem State.setSen_config (s : State) (i : Chan) (x : ChannelSense) : (s.setSen i x).config = s.config := rfl
@[simp] theorem State.setSen_lock (s : State) (i : Chan) (x : ChannelSense) : (s.setSen i x).lock = s.lock := rfl
@[simp] theorem State.setSen_ports (s : State) (i : Chan) (x : ChannelSense) : (s.setSen i x).ports = s.ports := rfl
@[simp] theorem State.setSen_claims (s : State) (i : Chan) (x : ChannelSense) : (s.setSen i x).claims = s.claims := rfl
@[simp] theorem State.setSen_demand (s : State) (i : Chan) (x : ChannelSense) : (s.setSen i x).demand = s.demand := rfl
@[simp] theorem State.setSen_queue (s : State) (i : Chan) (x : ChannelSense) : (s.setSen i x).queue = s.queue := rfl
@[simp] theorem State.setSen_admissionCounter (s : State) (i : Chan) (x : ChannelSense) : (s.setSen i x).admissionCounter = s.admissionCounter := rfl
@[simp] theorem State.setSen_grantCounter (s : State) (i : Chan) (x : ChannelSense) : (s.setSen i x).grantCounter = s.grantCounter := rfl
@[simp] theorem State.setSen_accounts (s : State) (i : Chan) (x : ChannelSense) : (s.setSen i x).accounts = s.accounts := rfl
@[simp] theorem State.setSen_channels (s : State) (i : Chan) (x : ChannelSense) : (s.setSen i x).channels = s.channels := rfl
@[simp] theorem State.setSen_xf (s : State) (i : Chan) (x : ChannelSense) : (s.setSen i x).xf = s.xf := rfl
@[simp] theorem State.setSen_enables (s : State) (i : Chan) (x : ChannelSense) : (s.setSen i x).enables = s.enables := rfl
@[simp] theorem State.setSen_rails (s : State) (i : Chan) (x : ChannelSense) : (s.setSen i x).rails = s.rails := rfl
@[simp] theorem State.setSen_notices (s : State) (i : Chan) (x : ChannelSense) : (s.setSen i x).notices = s.notices := rfl
@[simp] theorem State.setSen_draws (s : State) (i : Chan) (x : ChannelSense) : (s.setSen i x).draws = s.draws := rfl
@[simp] theorem State.setSen_pending (s : State) (i : Chan) (x : ChannelSense) : (s.setSen i x).pending = s.pending := rfl
@[simp] theorem State.setSen_port (s : State) (i : Chan) (x : ChannelSense) (h : HostId) :
    (s.setSen i x).port h = s.port h := rfl
@[simp] theorem State.setSen_ctl (s : State) (i : Chan) (x : ChannelSense) (k : Chan) :
    (s.setSen i x).ctl k = s.ctl k := rfl
@[simp] theorem State.setSen_cfg (s : State) (i : Chan) (x : ChannelSense) (k : Chan) :
    (s.setSen i x).cfg k = s.cfg k := rfl
@[simp] theorem State.setSen_claimOf (s : State) (i : Chan) (x : ChannelSense) (k : Chan) (g : HostId) :
    (s.setSen i x).claimOf k g = s.claimOf k g := rfl
@[simp] theorem State.setSen_dem (s : State) (i : Chan) (x : ChannelSense) (k : Chan) :
    (s.setSen i x).dem k = s.dem k := rfl
@[simp] theorem State.setSen_account (s : State) (i : Chan) (x : ChannelSense) (r : Rail) :
    (s.setSen i x).account r = s.account r := rfl
@[simp] theorem State.setSen_rail (s : State) (i : Chan) (x : ChannelSense) (r : Rail) :
    (s.setSen i x).rail r = s.rail r := rfl
@[simp] theorem State.setSen_line (s : State) (i : Chan) (x : ChannelSense) (k : LineId) :
    (s.setSen i x).line k = s.line k := rfl
@[simp] theorem State.setSen_noticesOf (s : State) (i : Chan) (x : ChannelSense) (g : HostId) :
    (s.setSen i x).noticesOf g = s.noticesOf g := rfl
@[simp] theorem State.setSen_viewEntry (s : State) (i : Chan) (x : ChannelSense) (g : HostId) (l : Chan) :
    (s.setSen i x).viewEntry g l = s.viewEntry g l := rfl
@[simp] theorem State.setSen_isLoading (s : State) (i : Chan) (x : ChannelSense) :
    (s.setSen i x).isLoading = s.isLoading := rfl

/-! ### After setCfg -/

@[simp] theorem State.setCfg_pm (s : State) (i : Chan) (x : ChannelConfig) : (s.setCfg i x).pm = s.pm := rfl
@[simp] theorem State.setCfg_deviceTime (s : State) (i : Chan) (x : ChannelConfig) : (s.setCfg i x).deviceTime = s.deviceTime := rfl
@[simp] theorem State.setCfg_lock (s : State) (i : Chan) (x : ChannelConfig) : (s.setCfg i x).lock = s.lock := rfl
@[simp] theorem State.setCfg_ports (s : State) (i : Chan) (x : ChannelConfig) : (s.setCfg i x).ports = s.ports := rfl
@[simp] theorem State.setCfg_claims (s : State) (i : Chan) (x : ChannelConfig) : (s.setCfg i x).claims = s.claims := rfl
@[simp] theorem State.setCfg_demand (s : State) (i : Chan) (x : ChannelConfig) : (s.setCfg i x).demand = s.demand := rfl
@[simp] theorem State.setCfg_queue (s : State) (i : Chan) (x : ChannelConfig) : (s.setCfg i x).queue = s.queue := rfl
@[simp] theorem State.setCfg_admissionCounter (s : State) (i : Chan) (x : ChannelConfig) : (s.setCfg i x).admissionCounter = s.admissionCounter := rfl
@[simp] theorem State.setCfg_grantCounter (s : State) (i : Chan) (x : ChannelConfig) : (s.setCfg i x).grantCounter = s.grantCounter := rfl
@[simp] theorem State.setCfg_accounts (s : State) (i : Chan) (x : ChannelConfig) : (s.setCfg i x).accounts = s.accounts := rfl
@[simp] theorem State.setCfg_channels (s : State) (i : Chan) (x : ChannelConfig) : (s.setCfg i x).channels = s.channels := rfl
@[simp] theorem State.setCfg_sense (s : State) (i : Chan) (x : ChannelConfig) : (s.setCfg i x).sense = s.sense := rfl
@[simp] theorem State.setCfg_xf (s : State) (i : Chan) (x : ChannelConfig) : (s.setCfg i x).xf = s.xf := rfl
@[simp] theorem State.setCfg_enables (s : State) (i : Chan) (x : ChannelConfig) : (s.setCfg i x).enables = s.enables := rfl
@[simp] theorem State.setCfg_rails (s : State) (i : Chan) (x : ChannelConfig) : (s.setCfg i x).rails = s.rails := rfl
@[simp] theorem State.setCfg_notices (s : State) (i : Chan) (x : ChannelConfig) : (s.setCfg i x).notices = s.notices := rfl
@[simp] theorem State.setCfg_draws (s : State) (i : Chan) (x : ChannelConfig) : (s.setCfg i x).draws = s.draws := rfl
@[simp] theorem State.setCfg_pending (s : State) (i : Chan) (x : ChannelConfig) : (s.setCfg i x).pending = s.pending := rfl
@[simp] theorem State.setCfg_port (s : State) (i : Chan) (x : ChannelConfig) (h : HostId) :
    (s.setCfg i x).port h = s.port h := rfl
@[simp] theorem State.setCfg_ctl (s : State) (i : Chan) (x : ChannelConfig) (k : Chan) :
    (s.setCfg i x).ctl k = s.ctl k := rfl
@[simp] theorem State.setCfg_sen (s : State) (i : Chan) (x : ChannelConfig) (k : Chan) :
    (s.setCfg i x).sen k = s.sen k := rfl
@[simp] theorem State.setCfg_claimOf (s : State) (i : Chan) (x : ChannelConfig) (k : Chan) (g : HostId) :
    (s.setCfg i x).claimOf k g = s.claimOf k g := rfl
@[simp] theorem State.setCfg_dem (s : State) (i : Chan) (x : ChannelConfig) (k : Chan) :
    (s.setCfg i x).dem k = s.dem k := rfl
@[simp] theorem State.setCfg_account (s : State) (i : Chan) (x : ChannelConfig) (r : Rail) :
    (s.setCfg i x).account r = s.account r := rfl
@[simp] theorem State.setCfg_rail (s : State) (i : Chan) (x : ChannelConfig) (r : Rail) :
    (s.setCfg i x).rail r = s.rail r := rfl
@[simp] theorem State.setCfg_line (s : State) (i : Chan) (x : ChannelConfig) (k : LineId) :
    (s.setCfg i x).line k = s.line k := rfl
@[simp] theorem State.setCfg_noticesOf (s : State) (i : Chan) (x : ChannelConfig) (g : HostId) :
    (s.setCfg i x).noticesOf g = s.noticesOf g := rfl
@[simp] theorem State.setCfg_isLoading (s : State) (i : Chan) (x : ChannelConfig) :
    (s.setCfg i x).isLoading = s.isLoading := rfl

/-! ### After setClaim -/

@[simp] theorem State.setClaim_pm (s : State) (i : Chan) (j : HostId) (x : Option Claim) : (s.setClaim i j x).pm = s.pm := rfl
@[simp] theorem State.setClaim_deviceTime (s : State) (i : Chan) (j : HostId) (x : Option Claim) : (s.setClaim i j x).deviceTime = s.deviceTime := rfl
@[simp] theorem State.setClaim_config (s : State) (i : Chan) (j : HostId) (x : Option Claim) : (s.setClaim i j x).config = s.config := rfl
@[simp] theorem State.setClaim_lock (s : State) (i : Chan) (j : HostId) (x : Option Claim) : (s.setClaim i j x).lock = s.lock := rfl
@[simp] theorem State.setClaim_ports (s : State) (i : Chan) (j : HostId) (x : Option Claim) : (s.setClaim i j x).ports = s.ports := rfl
@[simp] theorem State.setClaim_demand (s : State) (i : Chan) (j : HostId) (x : Option Claim) : (s.setClaim i j x).demand = s.demand := rfl
@[simp] theorem State.setClaim_queue (s : State) (i : Chan) (j : HostId) (x : Option Claim) : (s.setClaim i j x).queue = s.queue := rfl
@[simp] theorem State.setClaim_admissionCounter (s : State) (i : Chan) (j : HostId) (x : Option Claim) : (s.setClaim i j x).admissionCounter = s.admissionCounter := rfl
@[simp] theorem State.setClaim_grantCounter (s : State) (i : Chan) (j : HostId) (x : Option Claim) : (s.setClaim i j x).grantCounter = s.grantCounter := rfl
@[simp] theorem State.setClaim_accounts (s : State) (i : Chan) (j : HostId) (x : Option Claim) : (s.setClaim i j x).accounts = s.accounts := rfl
@[simp] theorem State.setClaim_channels (s : State) (i : Chan) (j : HostId) (x : Option Claim) : (s.setClaim i j x).channels = s.channels := rfl
@[simp] theorem State.setClaim_sense (s : State) (i : Chan) (j : HostId) (x : Option Claim) : (s.setClaim i j x).sense = s.sense := rfl
@[simp] theorem State.setClaim_xf (s : State) (i : Chan) (j : HostId) (x : Option Claim) : (s.setClaim i j x).xf = s.xf := rfl
@[simp] theorem State.setClaim_enables (s : State) (i : Chan) (j : HostId) (x : Option Claim) : (s.setClaim i j x).enables = s.enables := rfl
@[simp] theorem State.setClaim_rails (s : State) (i : Chan) (j : HostId) (x : Option Claim) : (s.setClaim i j x).rails = s.rails := rfl
@[simp] theorem State.setClaim_notices (s : State) (i : Chan) (j : HostId) (x : Option Claim) : (s.setClaim i j x).notices = s.notices := rfl
@[simp] theorem State.setClaim_draws (s : State) (i : Chan) (j : HostId) (x : Option Claim) : (s.setClaim i j x).draws = s.draws := rfl
@[simp] theorem State.setClaim_pending (s : State) (i : Chan) (j : HostId) (x : Option Claim) : (s.setClaim i j x).pending = s.pending := rfl
@[simp] theorem State.setClaim_port (s : State) (i : Chan) (j : HostId) (x : Option Claim) (h : HostId) :
    (s.setClaim i j x).port h = s.port h := rfl
@[simp] theorem State.setClaim_ctl (s : State) (i : Chan) (j : HostId) (x : Option Claim) (k : Chan) :
    (s.setClaim i j x).ctl k = s.ctl k := rfl
@[simp] theorem State.setClaim_sen (s : State) (i : Chan) (j : HostId) (x : Option Claim) (k : Chan) :
    (s.setClaim i j x).sen k = s.sen k := rfl
@[simp] theorem State.setClaim_cfg (s : State) (i : Chan) (j : HostId) (x : Option Claim) (k : Chan) :
    (s.setClaim i j x).cfg k = s.cfg k := rfl
@[simp] theorem State.setClaim_dem (s : State) (i : Chan) (j : HostId) (x : Option Claim) (k : Chan) :
    (s.setClaim i j x).dem k = s.dem k := rfl
@[simp] theorem State.setClaim_account (s : State) (i : Chan) (j : HostId) (x : Option Claim) (r : Rail) :
    (s.setClaim i j x).account r = s.account r := rfl
@[simp] theorem State.setClaim_rail (s : State) (i : Chan) (j : HostId) (x : Option Claim) (r : Rail) :
    (s.setClaim i j x).rail r = s.rail r := rfl
@[simp] theorem State.setClaim_line (s : State) (i : Chan) (j : HostId) (x : Option Claim) (k : LineId) :
    (s.setClaim i j x).line k = s.line k := rfl
@[simp] theorem State.setClaim_noticesOf (s : State) (i : Chan) (j : HostId) (x : Option Claim) (g : HostId) :
    (s.setClaim i j x).noticesOf g = s.noticesOf g := rfl
@[simp] theorem State.setClaim_viewEntry (s : State) (i : Chan) (j : HostId) (x : Option Claim) (g : HostId) (l : Chan) :
    (s.setClaim i j x).viewEntry g l = s.viewEntry g l := rfl
@[simp] theorem State.setClaim_isLoading (s : State) (i : Chan) (j : HostId) (x : Option Claim) :
    (s.setClaim i j x).isLoading = s.isLoading := rfl

/-! ### After setAccount -/

@[simp] theorem State.setAccount_pm (s : State) (i : Rail) (x : Account) : (s.setAccount i x).pm = s.pm := rfl
@[simp] theorem State.setAccount_deviceTime (s : State) (i : Rail) (x : Account) : (s.setAccount i x).deviceTime = s.deviceTime := rfl
@[simp] theorem State.setAccount_config (s : State) (i : Rail) (x : Account) : (s.setAccount i x).config = s.config := rfl
@[simp] theorem State.setAccount_lock (s : State) (i : Rail) (x : Account) : (s.setAccount i x).lock = s.lock := rfl
@[simp] theorem State.setAccount_ports (s : State) (i : Rail) (x : Account) : (s.setAccount i x).ports = s.ports := rfl
@[simp] theorem State.setAccount_claims (s : State) (i : Rail) (x : Account) : (s.setAccount i x).claims = s.claims := rfl
@[simp] theorem State.setAccount_demand (s : State) (i : Rail) (x : Account) : (s.setAccount i x).demand = s.demand := rfl
@[simp] theorem State.setAccount_queue (s : State) (i : Rail) (x : Account) : (s.setAccount i x).queue = s.queue := rfl
@[simp] theorem State.setAccount_admissionCounter (s : State) (i : Rail) (x : Account) : (s.setAccount i x).admissionCounter = s.admissionCounter := rfl
@[simp] theorem State.setAccount_grantCounter (s : State) (i : Rail) (x : Account) : (s.setAccount i x).grantCounter = s.grantCounter := rfl
@[simp] theorem State.setAccount_channels (s : State) (i : Rail) (x : Account) : (s.setAccount i x).channels = s.channels := rfl
@[simp] theorem State.setAccount_sense (s : State) (i : Rail) (x : Account) : (s.setAccount i x).sense = s.sense := rfl
@[simp] theorem State.setAccount_xf (s : State) (i : Rail) (x : Account) : (s.setAccount i x).xf = s.xf := rfl
@[simp] theorem State.setAccount_enables (s : State) (i : Rail) (x : Account) : (s.setAccount i x).enables = s.enables := rfl
@[simp] theorem State.setAccount_rails (s : State) (i : Rail) (x : Account) : (s.setAccount i x).rails = s.rails := rfl
@[simp] theorem State.setAccount_notices (s : State) (i : Rail) (x : Account) : (s.setAccount i x).notices = s.notices := rfl
@[simp] theorem State.setAccount_draws (s : State) (i : Rail) (x : Account) : (s.setAccount i x).draws = s.draws := rfl
@[simp] theorem State.setAccount_pending (s : State) (i : Rail) (x : Account) : (s.setAccount i x).pending = s.pending := rfl
@[simp] theorem State.setAccount_port (s : State) (i : Rail) (x : Account) (h : HostId) :
    (s.setAccount i x).port h = s.port h := rfl
@[simp] theorem State.setAccount_ctl (s : State) (i : Rail) (x : Account) (k : Chan) :
    (s.setAccount i x).ctl k = s.ctl k := rfl
@[simp] theorem State.setAccount_sen (s : State) (i : Rail) (x : Account) (k : Chan) :
    (s.setAccount i x).sen k = s.sen k := rfl
@[simp] theorem State.setAccount_cfg (s : State) (i : Rail) (x : Account) (k : Chan) :
    (s.setAccount i x).cfg k = s.cfg k := rfl
@[simp] theorem State.setAccount_claimOf (s : State) (i : Rail) (x : Account) (k : Chan) (g : HostId) :
    (s.setAccount i x).claimOf k g = s.claimOf k g := rfl
@[simp] theorem State.setAccount_dem (s : State) (i : Rail) (x : Account) (k : Chan) :
    (s.setAccount i x).dem k = s.dem k := rfl
@[simp] theorem State.setAccount_rail (s : State) (i : Rail) (x : Account) (r : Rail) :
    (s.setAccount i x).rail r = s.rail r := rfl
@[simp] theorem State.setAccount_line (s : State) (i : Rail) (x : Account) (k : LineId) :
    (s.setAccount i x).line k = s.line k := rfl
@[simp] theorem State.setAccount_noticesOf (s : State) (i : Rail) (x : Account) (g : HostId) :
    (s.setAccount i x).noticesOf g = s.noticesOf g := rfl
@[simp] theorem State.setAccount_viewEntry (s : State) (i : Rail) (x : Account) (g : HostId) (l : Chan) :
    (s.setAccount i x).viewEntry g l = s.viewEntry g l := rfl
@[simp] theorem State.setAccount_isLoading (s : State) (i : Rail) (x : Account) :
    (s.setAccount i x).isLoading = s.isLoading := rfl

/-! ### After setRail -/

@[simp] theorem State.setRail_pm (s : State) (i : Rail) (x : RailMonitor) : (s.setRail i x).pm = s.pm := rfl
@[simp] theorem State.setRail_deviceTime (s : State) (i : Rail) (x : RailMonitor) : (s.setRail i x).deviceTime = s.deviceTime := rfl
@[simp] theorem State.setRail_config (s : State) (i : Rail) (x : RailMonitor) : (s.setRail i x).config = s.config := rfl
@[simp] theorem State.setRail_lock (s : State) (i : Rail) (x : RailMonitor) : (s.setRail i x).lock = s.lock := rfl
@[simp] theorem State.setRail_ports (s : State) (i : Rail) (x : RailMonitor) : (s.setRail i x).ports = s.ports := rfl
@[simp] theorem State.setRail_claims (s : State) (i : Rail) (x : RailMonitor) : (s.setRail i x).claims = s.claims := rfl
@[simp] theorem State.setRail_demand (s : State) (i : Rail) (x : RailMonitor) : (s.setRail i x).demand = s.demand := rfl
@[simp] theorem State.setRail_queue (s : State) (i : Rail) (x : RailMonitor) : (s.setRail i x).queue = s.queue := rfl
@[simp] theorem State.setRail_admissionCounter (s : State) (i : Rail) (x : RailMonitor) : (s.setRail i x).admissionCounter = s.admissionCounter := rfl
@[simp] theorem State.setRail_grantCounter (s : State) (i : Rail) (x : RailMonitor) : (s.setRail i x).grantCounter = s.grantCounter := rfl
@[simp] theorem State.setRail_accounts (s : State) (i : Rail) (x : RailMonitor) : (s.setRail i x).accounts = s.accounts := rfl
@[simp] theorem State.setRail_channels (s : State) (i : Rail) (x : RailMonitor) : (s.setRail i x).channels = s.channels := rfl
@[simp] theorem State.setRail_sense (s : State) (i : Rail) (x : RailMonitor) : (s.setRail i x).sense = s.sense := rfl
@[simp] theorem State.setRail_xf (s : State) (i : Rail) (x : RailMonitor) : (s.setRail i x).xf = s.xf := rfl
@[simp] theorem State.setRail_enables (s : State) (i : Rail) (x : RailMonitor) : (s.setRail i x).enables = s.enables := rfl
@[simp] theorem State.setRail_notices (s : State) (i : Rail) (x : RailMonitor) : (s.setRail i x).notices = s.notices := rfl
@[simp] theorem State.setRail_draws (s : State) (i : Rail) (x : RailMonitor) : (s.setRail i x).draws = s.draws := rfl
@[simp] theorem State.setRail_pending (s : State) (i : Rail) (x : RailMonitor) : (s.setRail i x).pending = s.pending := rfl
@[simp] theorem State.setRail_port (s : State) (i : Rail) (x : RailMonitor) (h : HostId) :
    (s.setRail i x).port h = s.port h := rfl
@[simp] theorem State.setRail_ctl (s : State) (i : Rail) (x : RailMonitor) (k : Chan) :
    (s.setRail i x).ctl k = s.ctl k := rfl
@[simp] theorem State.setRail_sen (s : State) (i : Rail) (x : RailMonitor) (k : Chan) :
    (s.setRail i x).sen k = s.sen k := rfl
@[simp] theorem State.setRail_cfg (s : State) (i : Rail) (x : RailMonitor) (k : Chan) :
    (s.setRail i x).cfg k = s.cfg k := rfl
@[simp] theorem State.setRail_claimOf (s : State) (i : Rail) (x : RailMonitor) (k : Chan) (g : HostId) :
    (s.setRail i x).claimOf k g = s.claimOf k g := rfl
@[simp] theorem State.setRail_dem (s : State) (i : Rail) (x : RailMonitor) (k : Chan) :
    (s.setRail i x).dem k = s.dem k := rfl
@[simp] theorem State.setRail_account (s : State) (i : Rail) (x : RailMonitor) (r : Rail) :
    (s.setRail i x).account r = s.account r := rfl
@[simp] theorem State.setRail_line (s : State) (i : Rail) (x : RailMonitor) (k : LineId) :
    (s.setRail i x).line k = s.line k := rfl
@[simp] theorem State.setRail_noticesOf (s : State) (i : Rail) (x : RailMonitor) (g : HostId) :
    (s.setRail i x).noticesOf g = s.noticesOf g := rfl
@[simp] theorem State.setRail_viewEntry (s : State) (i : Rail) (x : RailMonitor) (g : HostId) (l : Chan) :
    (s.setRail i x).viewEntry g l = s.viewEntry g l := rfl
@[simp] theorem State.setRail_isLoading (s : State) (i : Rail) (x : RailMonitor) :
    (s.setRail i x).isLoading = s.isLoading := rfl

/-! ### After setLine -/

@[simp] theorem State.setLine_pm (s : State) (i : LineId) (x : EnableLine) : (s.setLine i x).pm = s.pm := rfl
@[simp] theorem State.setLine_deviceTime (s : State) (i : LineId) (x : EnableLine) : (s.setLine i x).deviceTime = s.deviceTime := rfl
@[simp] theorem State.setLine_config (s : State) (i : LineId) (x : EnableLine) : (s.setLine i x).config = s.config := rfl
@[simp] theorem State.setLine_lock (s : State) (i : LineId) (x : EnableLine) : (s.setLine i x).lock = s.lock := rfl
@[simp] theorem State.setLine_ports (s : State) (i : LineId) (x : EnableLine) : (s.setLine i x).ports = s.ports := rfl
@[simp] theorem State.setLine_claims (s : State) (i : LineId) (x : EnableLine) : (s.setLine i x).claims = s.claims := rfl
@[simp] theorem State.setLine_demand (s : State) (i : LineId) (x : EnableLine) : (s.setLine i x).demand = s.demand := rfl
@[simp] theorem State.setLine_queue (s : State) (i : LineId) (x : EnableLine) : (s.setLine i x).queue = s.queue := rfl
@[simp] theorem State.setLine_admissionCounter (s : State) (i : LineId) (x : EnableLine) : (s.setLine i x).admissionCounter = s.admissionCounter := rfl
@[simp] theorem State.setLine_grantCounter (s : State) (i : LineId) (x : EnableLine) : (s.setLine i x).grantCounter = s.grantCounter := rfl
@[simp] theorem State.setLine_accounts (s : State) (i : LineId) (x : EnableLine) : (s.setLine i x).accounts = s.accounts := rfl
@[simp] theorem State.setLine_channels (s : State) (i : LineId) (x : EnableLine) : (s.setLine i x).channels = s.channels := rfl
@[simp] theorem State.setLine_sense (s : State) (i : LineId) (x : EnableLine) : (s.setLine i x).sense = s.sense := rfl
@[simp] theorem State.setLine_xf (s : State) (i : LineId) (x : EnableLine) : (s.setLine i x).xf = s.xf := rfl
@[simp] theorem State.setLine_rails (s : State) (i : LineId) (x : EnableLine) : (s.setLine i x).rails = s.rails := rfl
@[simp] theorem State.setLine_notices (s : State) (i : LineId) (x : EnableLine) : (s.setLine i x).notices = s.notices := rfl
@[simp] theorem State.setLine_draws (s : State) (i : LineId) (x : EnableLine) : (s.setLine i x).draws = s.draws := rfl
@[simp] theorem State.setLine_pending (s : State) (i : LineId) (x : EnableLine) : (s.setLine i x).pending = s.pending := rfl
@[simp] theorem State.setLine_port (s : State) (i : LineId) (x : EnableLine) (h : HostId) :
    (s.setLine i x).port h = s.port h := rfl
@[simp] theorem State.setLine_ctl (s : State) (i : LineId) (x : EnableLine) (k : Chan) :
    (s.setLine i x).ctl k = s.ctl k := rfl
@[simp] theorem State.setLine_sen (s : State) (i : LineId) (x : EnableLine) (k : Chan) :
    (s.setLine i x).sen k = s.sen k := rfl
@[simp] theorem State.setLine_cfg (s : State) (i : LineId) (x : EnableLine) (k : Chan) :
    (s.setLine i x).cfg k = s.cfg k := rfl
@[simp] theorem State.setLine_claimOf (s : State) (i : LineId) (x : EnableLine) (k : Chan) (g : HostId) :
    (s.setLine i x).claimOf k g = s.claimOf k g := rfl
@[simp] theorem State.setLine_dem (s : State) (i : LineId) (x : EnableLine) (k : Chan) :
    (s.setLine i x).dem k = s.dem k := rfl
@[simp] theorem State.setLine_account (s : State) (i : LineId) (x : EnableLine) (r : Rail) :
    (s.setLine i x).account r = s.account r := rfl
@[simp] theorem State.setLine_rail (s : State) (i : LineId) (x : EnableLine) (r : Rail) :
    (s.setLine i x).rail r = s.rail r := rfl
@[simp] theorem State.setLine_noticesOf (s : State) (i : LineId) (x : EnableLine) (g : HostId) :
    (s.setLine i x).noticesOf g = s.noticesOf g := rfl
@[simp] theorem State.setLine_viewEntry (s : State) (i : LineId) (x : EnableLine) (g : HostId) (l : Chan) :
    (s.setLine i x).viewEntry g l = s.viewEntry g l := rfl
@[simp] theorem State.setLine_isLoading (s : State) (i : LineId) (x : EnableLine) :
    (s.setLine i x).isLoading = s.isLoading := rfl

/-! ### After setNotices -/

@[simp] theorem State.setNotices_pm (s : State) (i : HostId) (x : List Notice) : (s.setNotices i x).pm = s.pm := rfl
@[simp] theorem State.setNotices_deviceTime (s : State) (i : HostId) (x : List Notice) : (s.setNotices i x).deviceTime = s.deviceTime := rfl
@[simp] theorem State.setNotices_config (s : State) (i : HostId) (x : List Notice) : (s.setNotices i x).config = s.config := rfl
@[simp] theorem State.setNotices_lock (s : State) (i : HostId) (x : List Notice) : (s.setNotices i x).lock = s.lock := rfl
@[simp] theorem State.setNotices_ports (s : State) (i : HostId) (x : List Notice) : (s.setNotices i x).ports = s.ports := rfl
@[simp] theorem State.setNotices_claims (s : State) (i : HostId) (x : List Notice) : (s.setNotices i x).claims = s.claims := rfl
@[simp] theorem State.setNotices_demand (s : State) (i : HostId) (x : List Notice) : (s.setNotices i x).demand = s.demand := rfl
@[simp] theorem State.setNotices_queue (s : State) (i : HostId) (x : List Notice) : (s.setNotices i x).queue = s.queue := rfl
@[simp] theorem State.setNotices_admissionCounter (s : State) (i : HostId) (x : List Notice) : (s.setNotices i x).admissionCounter = s.admissionCounter := rfl
@[simp] theorem State.setNotices_grantCounter (s : State) (i : HostId) (x : List Notice) : (s.setNotices i x).grantCounter = s.grantCounter := rfl
@[simp] theorem State.setNotices_accounts (s : State) (i : HostId) (x : List Notice) : (s.setNotices i x).accounts = s.accounts := rfl
@[simp] theorem State.setNotices_channels (s : State) (i : HostId) (x : List Notice) : (s.setNotices i x).channels = s.channels := rfl
@[simp] theorem State.setNotices_sense (s : State) (i : HostId) (x : List Notice) : (s.setNotices i x).sense = s.sense := rfl
@[simp] theorem State.setNotices_xf (s : State) (i : HostId) (x : List Notice) : (s.setNotices i x).xf = s.xf := rfl
@[simp] theorem State.setNotices_enables (s : State) (i : HostId) (x : List Notice) : (s.setNotices i x).enables = s.enables := rfl
@[simp] theorem State.setNotices_rails (s : State) (i : HostId) (x : List Notice) : (s.setNotices i x).rails = s.rails := rfl
@[simp] theorem State.setNotices_draws (s : State) (i : HostId) (x : List Notice) : (s.setNotices i x).draws = s.draws := rfl
@[simp] theorem State.setNotices_pending (s : State) (i : HostId) (x : List Notice) : (s.setNotices i x).pending = s.pending := rfl
@[simp] theorem State.setNotices_port (s : State) (i : HostId) (x : List Notice) (h : HostId) :
    (s.setNotices i x).port h = s.port h := rfl
@[simp] theorem State.setNotices_ctl (s : State) (i : HostId) (x : List Notice) (k : Chan) :
    (s.setNotices i x).ctl k = s.ctl k := rfl
@[simp] theorem State.setNotices_sen (s : State) (i : HostId) (x : List Notice) (k : Chan) :
    (s.setNotices i x).sen k = s.sen k := rfl
@[simp] theorem State.setNotices_cfg (s : State) (i : HostId) (x : List Notice) (k : Chan) :
    (s.setNotices i x).cfg k = s.cfg k := rfl
@[simp] theorem State.setNotices_claimOf (s : State) (i : HostId) (x : List Notice) (k : Chan) (g : HostId) :
    (s.setNotices i x).claimOf k g = s.claimOf k g := rfl
@[simp] theorem State.setNotices_dem (s : State) (i : HostId) (x : List Notice) (k : Chan) :
    (s.setNotices i x).dem k = s.dem k := rfl
@[simp] theorem State.setNotices_account (s : State) (i : HostId) (x : List Notice) (r : Rail) :
    (s.setNotices i x).account r = s.account r := rfl
@[simp] theorem State.setNotices_rail (s : State) (i : HostId) (x : List Notice) (r : Rail) :
    (s.setNotices i x).rail r = s.rail r := rfl
@[simp] theorem State.setNotices_line (s : State) (i : HostId) (x : List Notice) (k : LineId) :
    (s.setNotices i x).line k = s.line k := rfl
@[simp] theorem State.setNotices_viewEntry (s : State) (i : HostId) (x : List Notice) (g : HostId) (l : Chan) :
    (s.setNotices i x).viewEntry g l = s.viewEntry g l := rfl
@[simp] theorem State.setNotices_isLoading (s : State) (i : HostId) (x : List Notice) :
    (s.setNotices i x).isLoading = s.isLoading := rfl

/-! ### What was written is read -/

@[simp] theorem State.port_setPort (s : State) (i : HostId) (x : Port) : (s.setPort i x).port i = x := by
  simp [State.port, State.setPort]

theorem State.port_setPort_of (s : State) (i h : HostId) (x : Port) :
    (s.setPort i x).port h = if h = i then x else s.port h := by
  simp [State.port, State.setPort, look_put]

@[simp] theorem State.ctl_setCtl (s : State) (i : Chan) (x : Controller) : (s.setCtl i x).ctl i = x := by
  simp [State.ctl, State.setCtl]

theorem State.ctl_setCtl_of (s : State) (i k : Chan) (x : Controller) :
    (s.setCtl i x).ctl k = if k = i then x else s.ctl k := by
  simp [State.ctl, State.setCtl, look_put]

@[simp] theorem State.sen_setSen (s : State) (i : Chan) (x : ChannelSense) : (s.setSen i x).sen i = x := by
  simp [State.sen, State.setSen]

theorem State.sen_setSen_of (s : State) (i k : Chan) (x : ChannelSense) :
    (s.setSen i x).sen k = if k = i then x else s.sen k := by
  simp [State.sen, State.setSen, look_put]

@[simp] theorem State.cfg_setCfg (s : State) (i : Chan) (x : ChannelConfig) : (s.setCfg i x).cfg i = x := by
  simp [State.cfg, State.setCfg]

theorem State.cfg_setCfg_of (s : State) (i k : Chan) (x : ChannelConfig) :
    (s.setCfg i x).cfg k = if k = i then x else s.cfg k := by
  simp [State.cfg, State.setCfg, look_put]

@[simp] theorem State.setCfg_viewEntry (s : State) (i : Chan) (x : ChannelConfig) (g : HostId) (l : Chan) :
    (s.setCfg i x).viewEntry g l = s.viewEntry g l := rfl

theorem State.claimOf_setClaim (s : State) (i k : Chan) (j g : HostId) (x : Option Claim) :
    (s.setClaim i j x).claimOf k g = if k = i ∧ g = j then x else s.claimOf k g := by
  by_cases h : k = i
  · subst h; by_cases e : g = j
    · subst e; simp [State.claimOf, State.setClaim]
    · simp [State.claimOf, State.setClaim, look_put, e]
  · simp [State.claimOf, State.setClaim, look_put, h]

@[simp] theorem State.account_setAccount (s : State) (r : Rail) (x : Account) :
    (s.setAccount r x).account r = x := by simp [State.account, State.setAccount]

theorem State.account_setAccount_of (s : State) (r q : Rail) (x : Account) :
    (s.setAccount r x).account q = if q = r then x else s.account q := by
  simp [State.account, State.setAccount, PerRail.of_setOf]

@[simp] theorem State.rail_setRail (s : State) (r : Rail) (x : RailMonitor) : (s.setRail r x).rail r = x := by
  simp [State.rail, State.setRail]

theorem State.rail_setRail_of (s : State) (r q : Rail) (x : RailMonitor) :
    (s.setRail r x).rail q = if q = r then x else s.rail q := by
  simp [State.rail, State.setRail, PerRail.of_setOf]

@[simp] theorem State.line_setLine (s : State) (i : LineId) (x : EnableLine) : (s.setLine i x).line i = x := by
  simp [State.line, State.setLine]

theorem State.line_setLine_of (s : State) (i k : LineId) (x : EnableLine) :
    (s.setLine i x).line k = if k = i then x else s.line k := by
  simp [State.line, State.setLine, look_put]

@[simp] theorem State.noticesOf_setNotices (s : State) (i : HostId) (x : List Notice) :
    (s.setNotices i x).noticesOf i = x := by simp [State.noticesOf, State.setNotices]

theorem State.noticesOf_setNotices_of (s : State) (i g : HostId) (x : List Notice) :
    (s.setNotices i x).noticesOf g = if g = i then x else s.noticesOf g := by
  simp [State.noticesOf, State.setNotices, look_put]

@[simp] theorem ProfileMemory.slot_setSlot (m : ProfileMemory) (i : SlotId) (x : Slot) :
    (m.setSlot i x).slot i = x := by cases i <;> rfl

@[simp] theorem ProfileMemory.slot_setValid (m : ProfileMemory) (i j : SlotId) (b : Bool) :
    (m.setValid i b).slot j = m.slot j := by cases i <;> cases j <;> rfl

@[simp] theorem ProfileMemory.valid_setValid (m : ProfileMemory) (i : SlotId) (b : Bool) :
    (m.setValid i b).valid i = b := by cases i <;> rfl

@[simp] theorem ProfileMemory.valid_setSlot (m : ProfileMemory) (i j : SlotId) (x : Slot) :
    (m.setSlot i x).valid j = m.valid j := by cases i <;> cases j <;> rfl

/-! ### The lists of all channels, hosts and lines -/

@[simp] theorem mem_allChans (c : Chan) : c ∈ allChans := by revert c; decide

@[simp] theorem mem_allHosts (h : HostId) : h ∈ allHosts := by revert h; decide

@[simp] theorem mem_allLines (k : LineId) : k ∈ allLines := by revert k; decide

theorem allChans_nodup : allChans.Nodup := by decide

theorem allHosts_nodup : allHosts.Nodup := by decide

@[simp] theorem State.mem_children (s : State) (c k : Chan) :
    k ∈ s.children c ↔ (s.cfg k).parent = some c := by simp [State.children]

end Machine
end Sys2Proof
end

