-- ==== Sys2Proof/Laws/Ops.lean ====
section
/-! SUPPORT. The shared operations: free choices, ordered insertion, notices, the controllers, the Claim Arbiter and the Budget Arbiter, each with one lemma that says what it can touch. -/

namespace Sys2Proof.Machine

/-! ### Free choices -/

/-- A choice takes a member of the list and counts at most one draw. -/
theorem pick_spec {α : Type} {l : List α} {s t : State} {x : α} (h : pick l s = some (x, t)) :
    x ∈ l ∧ (t = s ∨ t = { s with draws := s.draws + 1 }) := by
  match l with
  | [] => simp [pick] at h
  | [y] =>
    simp only [pick, Option.some.injEq, Prod.mk.injEq] at h
    exact ⟨by simp [h.1], .inl h.2.symm⟩
  | y :: z :: rest =>
    simp only [pick, Option.some.injEq, Prod.mk.injEq] at h
    refine ⟨?_, .inr h.2.symm⟩
    have hlt : Config.choice s.draws % (y :: z :: rest).length < (y :: z :: rest).length :=
      Nat.mod_lt _ (by simp)
    rw [← h.1, List.getElem?_eq_getElem hlt]
    exact List.getElem_mem hlt

/-- There is something to choose exactly where the list is not empty. -/
theorem pick_isSome {α : Type} (l : List α) (s : State) : (pick l s).isSome = !l.isEmpty := by
  match l with
  | [] => rfl
  | [_] => rfl
  | _ :: _ :: _ => rfl

/-- What every turn and every draw keeps, members taken in a free order keep. -/
theorem inFreeOrder_keeps {α : Type} [DecidableEq α] {P : State → Prop} {ready : List α → List α}
    {f : α → State → State} (hf : ∀ x t, P t → P (f x t))
    (hd : ∀ t, P t → P { t with draws := t.draws + 1 }) :
    ∀ (n : Nat) (l : List α) (s : State), P s → P (inFreeOrder ready f n l s)
  | 0, _, _, hs => hs
  | n + 1, l, s, hs => by
    unfold inFreeOrder
    cases hp : pick (ready l) s with
    | none => exact hs
    | some r =>
      obtain ⟨x, t⟩ := r
      refine inFreeOrder_keeps hf hd n _ _ (hf _ _ ?_)
      rcases (pick_spec hp).2 with h | h <;> subst h
      · exact hs
      · exact hd _ hs

/-! ### Ordered insertion -/

theorem insertBy_perm {α : Type} (p : α → α → Bool) (x : α) (l : List α) :
    (insertBy p x l).Perm (x :: l) := by
  induction l with
  | nil => exact .refl _
  | cons y ys ih =>
    unfold insertBy
    split
    · exact .refl _
    · exact (ih.cons y).trans (.swap x y ys)

@[simp] theorem mem_insertBy {α : Type} (p : α → α → Bool) (x y : α) (l : List α) :
    y ∈ insertBy p x l ↔ y = x ∨ y ∈ l := by simp [(insertBy_perm p x l).mem_iff]

theorem sortBy_perm {α : Type} (p : α → α → Bool) (l : List α) : (sortBy p l).Perm l := by
  induction l with
  | nil => exact .refl _
  | cons x xs ih => exact (insertBy_perm p x _).trans (ih.cons x)

@[simp] theorem mem_sortBy {α : Type} (p : α → α → Bool) (y : α) (l : List α) :
    y ∈ sortBy p l ↔ y ∈ l := (sortBy_perm p l).mem_iff

/-- Insertion keeps a list in which no later member precedes an earlier one. -/
theorem insertBy_sorted {α : Type} {p : α → α → Bool}
    (trans : ∀ x y z, p y x = false → p z y = false → p z x = false)
    (asymm : ∀ x y, p x y = true → p y x = false) (x : α) {l : List α}
    (h : l.Pairwise fun a b => p b a = false) :
    (insertBy p x l).Pairwise fun a b => p b a = false := by
  induction l with
  | nil => simp [insertBy]
  | cons y ys ih =>
    rw [List.pairwise_cons] at h
    unfold insertBy
    split
    · rename_i hxy
      refine List.pairwise_cons.2 ⟨fun z hz => ?_, List.pairwise_cons.2 h⟩
      rcases List.mem_cons.1 hz with rfl | hz
      · exact asymm _ _ hxy
      · exact trans _ _ _ (asymm _ _ hxy) (h.1 z hz)
    · rename_i hxy
      refine List.pairwise_cons.2 ⟨fun z hz => ?_, ih h.2⟩
      rcases (mem_insertBy p x z ys).1 hz with rfl | hz
      · simpa using hxy
      · exact h.1 z hz

theorem sortBy_sorted {α : Type} {p : α → α → Bool}
    (trans : ∀ x y z, p y x = false → p z y = false → p z x = false)
    (asymm : ∀ x y, p x y = true → p y x = false) (l : List α) :
    (sortBy p l).Pairwise fun a b => p b a = false := by
  induction l with
  | nil => simp [sortBy]
  | cons x xs ih => exact insertBy_sorted trans asymm x ih

/-! ### Notices -/

@[simp] theorem markNewest_length (q : List Notice) : (markNewest q).length = q.length := by
  induction q using markNewest.induct with
  | case1 => rfl
  | case2 => rfl
  | case3 n m rest ih => simpa [markNewest] using ih

@[simp] theorem markNewest_unflagged (q : List Notice) :
    (markNewest q).map Notice.unflagged = q.map Notice.unflagged := by
  induction q using markNewest.induct with
  | case1 => rfl
  | case2 => rfl
  | case3 n m rest ih => simpa [markNewest] using ih

theorem markNewest_append (older : List Notice) (n : Notice) :
    markNewest (older ++ [n]) = older ++ [{ n with lostAfter := true }] := by
  induction older with
  | nil => rfl
  | cons x xs ih =>
    cases xs with
    | nil => rfl
    | cons y ys => simpa [markNewest] using ih

/-- A queue that has room stores the record, a full one does not grow. -/
theorem appendNotice_length (q : List Notice) (n : Notice) :
    (appendNotice q n).length = if q.length < 32 then q.length + 1 else q.length := by
  unfold appendNotice noticeCapacity; split <;> simp

/-- Flags apart, a record is appended or lost. -/
theorem appendNotice_unflagged (q : List Notice) (n : Notice) :
    (appendNotice q n).map Notice.unflagged =
      q.map Notice.unflagged ++ if q.length < 32 then [n.unflagged] else [] := by
  unfold appendNotice noticeCapacity; split <;> simp

@[simp] theorem State.deliver_noticesOf (s : State) (hosts : HostId → Bool) (record : HostId → Notice)
    (h : HostId) : (s.deliver hosts record).noticesOf h =
      if hosts h then appendNotice (s.noticesOf h) (record h) else s.noticesOf h := by
  simp [State.deliver, State.noticesOf]

/-- Giving records touches the notice queues alone. -/
theorem State.deliver_frame (s : State) (hosts : HostId → Bool) (record : HostId → Notice) :
    s.deliver hosts record = { s with notices := (s.deliver hosts record).notices } := rfl

/-! ### What the controllers and the arbiters leave alone -/

/-- From `s` to `t` nothing outside the controllers, the Sense Unit, the two arbiters and the notice
queues has changed, and the notice queues have only grown. -/
structure Moves (s t : State) : Prop where
  kept : KeepsTables s t
  grown : QueuesGrow s t

theorem KeepsTables.refl (s : State) : KeepsTables s s :=
  ⟨rfl, rfl, rfl, rfl, rfl, rfl, rfl, rfl, rfl, rfl⟩

theorem KeepsTables.trans {s t u : State} (h : KeepsTables s t) (k : KeepsTables t u) :
    KeepsTables s u :=
  ⟨k.pm.trans h.pm, k.deviceTime.trans h.deviceTime, k.config.trans h.config, k.lock.trans h.lock,
    k.ports.trans h.ports, k.claims.trans h.claims, k.xf.trans h.xf, k.enables.trans h.enables,
    k.rails.trans h.rails, k.pending.trans h.pending⟩

theorem Moves.refl (s : State) : Moves s s := ⟨.refl s, fun _ => ⟨[], by simp⟩⟩

theorem Moves.port {s t : State} (h : Moves s t) (g : HostId) : t.port g = s.port g := by
  simp [State.port, h.kept.ports]

theorem Moves.cfg {s t : State} (h : Moves s t) (c : Chan) : t.cfg c = s.cfg c := by
  simp [State.cfg, h.kept.config]

theorem Moves.claimOf {s t : State} (h : Moves s t) (c : Chan) (g : HostId) :
    t.claimOf c g = s.claimOf c g := by simp [State.claimOf, h.kept.claims]

theorem Moves.trans {s t u : State} (h : Moves s t) (k : Moves t u) : Moves s u := by
  refine ⟨h.kept.trans k.kept, fun g => ?_⟩
  obtain ⟨x, hx, hc⟩ := h.grown g
  obtain ⟨y, hy, hd⟩ := k.grown g
  refine ⟨x ++ y, by rw [hy, hx, List.append_assoc], fun hg => ?_⟩
  rw [hd (by rwa [h.port]), hc hg]

/-- An update that touches neither the tables nor the notice queues. -/
theorem Moves.of_same {s t : State} (h : KeepsTables s t) (n : t.notices = s.notices) : Moves s t :=
  ⟨h, fun g => ⟨[], by simp [State.noticesOf, n]⟩⟩

theorem moves_draw (s : State) (n : Nat) : Moves s { s with draws := n } :=
  .of_same ⟨rfl, rfl, rfl, rfl, rfl, rfl, rfl, rfl, rfl, rfl⟩ rfl

theorem moves_setCtl (s : State) (c : Chan) (k : Controller) : Moves s (s.setCtl c k) :=
  .of_same ⟨rfl, rfl, rfl, rfl, rfl, rfl, rfl, rfl, rfl, rfl⟩ rfl

theorem moves_setSen (s : State) (c : Chan) (x : ChannelSense) : Moves s (s.setSen c x) :=
  .of_same ⟨rfl, rfl, rfl, rfl, rfl, rfl, rfl, rfl, rfl, rfl⟩ rfl

theorem moves_setAccount (s : State) (r : Rail) (x : Account) : Moves s (s.setAccount r x) :=
  .of_same ⟨rfl, rfl, rfl, rfl, rfl, rfl, rfl, rfl, rfl, rfl⟩ rfl

theorem moves_unqueue (s : State) (c : Chan) : Moves s (s.unqueue c) :=
  .of_same ⟨rfl, rfl, rfl, rfl, rfl, rfl, rfl, rfl, rfl, rfl⟩ rfl

theorem moves_enqueue (s : State) (c : Chan) : Moves s (s.enqueue c) :=
  .of_same ⟨rfl, rfl, rfl, rfl, rfl, rfl, rfl, rfl, rfl, rfl⟩ rfl

theorem moves_reprioritize (s : State) (c : Chan) : Moves s (s.reprioritize c) := by
  unfold State.reprioritize
  split
  · exact .of_same ⟨rfl, rfl, rfl, rfl, rfl, rfl, rfl, rfl, rfl, rfl⟩ rfl
  · exact .refl s

theorem moves_uncharge (s : State) (c : Chan) : Moves s (s.uncharge c) :=
  .of_same ⟨rfl, rfl, rfl, rfl, rfl, rfl, rfl, rfl, rfl, rfl⟩ rfl

theorem moves_charge (s : State) (r : Rail) (x : Charge) : Moves s (s.charge r x) :=
  moves_setAccount s r _

theorem moves_quiet (s : State) (c : Chan) : Moves s (s.quiet c) := moves_setSen s c _

/-- Records given to OPEN hosts only. -/
theorem moves_deliver (s : State) (hosts : HostId → Bool) (record : HostId → Notice)
    (h : ∀ g, hosts g = true → (s.port g).session = .opened) : Moves s (s.deliver hosts record) := by
  refine ⟨⟨rfl, rfl, rfl, rfl, rfl, rfl, rfl, rfl, rfl, rfl⟩, fun g => ?_⟩
  rw [State.deliver_noticesOf]
  by_cases hg : hosts g = true
  · rw [if_pos hg]
    exact ⟨_, appendNotice_unflagged _ _, fun hn => absurd (h g hg) hn⟩
  · rw [if_neg hg]
    exact ⟨[], by simp⟩

theorem State.receives_open {s : State} {g : HostId} {c : Chan} (h : s.receives g c = true) :
    (s.port g).session = .opened := by
  unfold State.receives at h
  split at h
  · simp only [Bool.and_eq_true, decide_eq_true_eq] at h; exact h.1
  · cases h

theorem moves_reportChannel (s : State) (c : Chan) (x : Report) : Moves s (s.reportChannel c x) :=
  moves_deliver s _ _ fun _ h => State.receives_open h

theorem moves_reportRail (s : State) (x : Report) : Moves s (s.reportRail x) :=
  moves_deliver s _ _ fun _ h => by simpa using h

theorem moves_reportDrop (s : State) (c : Chan) (g : HostId) (tag : BitVec 16) (x : DropCause) :
    Moves s (s.reportDrop c g tag x) :=
  moves_deliver s _ _ fun k h => by
    simp only [Bool.and_eq_true, decide_eq_true_eq] at h; exact h.2

theorem moves_foldl {α : Type} (f : State → α → State) (h : ∀ t x, Moves t (f t x)) :
    ∀ (l : List α) (s : State), Moves s (l.foldl f s)
  | [], s => .refl s
  | x :: xs, s => (h s x).trans (moves_foldl f h xs (f s x))

theorem moves_enterQueued (s : State) (c : Chan) : Moves s (s.enterQueued c) :=
  (moves_setCtl s c _).trans (moves_enqueue _ c)

theorem moves_enterOff (s : State) (c : Chan) : Moves s (s.enterOff c) := by
  unfold State.enterOff
  dsimp only
  split
  · exact (moves_setCtl s c _).trans (moves_enterQueued _ c)
  · exact moves_setCtl s c _

theorem moves_endWait (s : State) (c : Chan) : Moves s (s.endWait c) := by
  unfold State.endWait
  split
  · exact moves_enterQueued s c
  · exact moves_enterOff s c

theorem moves_stopOne (s : State) (cause : StopCause) (c : Chan) : Moves s (s.stopOne cause c) := by
  unfold State.stopOne
  dsimp only
  refine .trans ?_ (moves_reportChannel _ c _)
  have h := ((moves_uncharge s c).trans (moves_quiet _ c)).trans (moves_setCtl _ c
    { s.ctl c with
      state := .stopping, sub := .noSub, chargedRail := none
      softStart := none, blanking := none, stable := none, deadTime := none
      discharge := startTimer (s.cfg c).dischargeTime })
  split
  · exact h.trans (moves_endWait _ c)
  · exact h

theorem moves_stopTree : ∀ (n : Nat) (cause : StopCause) (c : Chan) (s : State),
    Moves s (stopTree n cause c s)
  | 0, cause, c, s => moves_stopOne s cause c
  | n + 1, cause, c, s => by
    unfold stopTree
    dsimp only
    split
    · refine (moves_stopOne s cause c).trans (moves_foldl _ (fun t k => ?_) _ _)
      split
      · exact moves_stopTree n .parentLost k t
      · exact .refl t
    · exact moves_stopOne s cause c

/-- A stop with its cascade. -/
theorem moves_stop (s : State) (cause : StopCause) (c : Chan) : Moves s (s.stop cause c) :=
  moves_stopTree treeDepth cause c s

theorem moves_cascade (s : State) (c : Chan) : Moves s (s.cascade c) := by
  refine moves_foldl _ (fun t k => ?_) _ _
  split
  · exact moves_stop t .parentLost k
  · exact .refl t

theorem moves_demandArrival (s : State) (c : Chan) : Moves s (s.demandArrival c) := by
  unfold State.demandArrival
  dsimp only
  split
  · split
    · exact (moves_setCtl s c _).trans (moves_enterQueued _ c)
    · exact moves_setCtl s c _
  all_goals exact moves_setCtl s c _

theorem moves_abandonRetry (s : State) (c : Chan) : Moves s (s.abandonRetry c) := by
  unfold State.abandonRetry
  dsimp only
  split
  · exact moves_setCtl s c _
  · exact (moves_setCtl s c _).trans (moves_enterOff _ c)

theorem moves_demandLoss (s : State) (c : Chan) : Moves s (s.demandLoss c) := by
  unfold State.demandLoss
  have h := moves_setCtl s c { s.ctl c with demand := false }
  dsimp only
  split
  · exact (h.trans (moves_unqueue _ c)).trans (moves_enterOff _ c)
  · exact h.trans (moves_stop _ _ c)
  · exact h.trans (moves_stop _ _ c)
  · exact h.trans (moves_stop _ _ c)
  · exact h.trans (moves_abandonRetry _ c)
  all_goals exact h

theorem moves_handOn (s : State) (old : Demand) (c : Chan) : Moves s (s.handOn old c) := by
  unfold State.handOn
  split
  · exact moves_demandArrival s c
  · exact moves_demandLoss s c
  · split
    · exact .refl s
    · exact moves_reprioritize s c
  · exact .refl s

/-- A recomputation, with all it hands on. -/
theorem moves_recompute (s : State) : Moves s s.recompute := by
  unfold State.recompute
  dsimp only
  refine inFreeOrder_keeps (P := Moves s) (fun c t h => h.trans (moves_handOn t _ c))
    (fun t h => h.trans (moves_draw t _)) _ _ _ ?_
  exact .of_same ⟨rfl, rfl, rfl, rfl, rfl, rfl, rfl, rfl, rfl, rfl⟩ rfl

/-- A fault, with its cascade and recomputation. -/
theorem moves_fault (s : State) (cause : FaultCause) (c : Chan) : Moves s (s.fault cause c) := by
  have h (k : Controller) (x : Report) :
      Moves s ((((s.uncharge c).quiet c).setCtl c k).reportChannel c x) :=
    (((moves_uncharge s c).trans (moves_quiet _ c)).trans (moves_setCtl _ c k)).trans
      (moves_reportChannel _ c x)
  have hc (k : Controller) (x : Report) :
      Moves s (State.cascade ((((s.uncharge c).quiet c).setCtl c k).reportChannel c x) c) :=
    (h k x).trans (moves_cascade _ c)
  unfold State.fault
  dsimp only
  split <;> split
  · exact .trans (hc _ _) (moves_recompute _)
  · exact .trans (h _ _) (moves_recompute _)
  · exact hc _ _
  · exact h _ _

theorem moves_enterSoftstart (s : State) (c : Chan) : Moves s (s.enterSoftstart c) := by
  unfold State.enterSoftstart
  dsimp only
  split
  · exact (moves_setCtl s c _).trans (moves_fault _ _ c)
  · exact moves_setCtl s c _

theorem moves_shed (s : State) (v : List Charge) : Moves s (s.shed v) := by
  unfold State.shed
  exact moves_foldl _ (fun t x => moves_stop t .shed x.chan) v s

theorem moves_grant (s : State) (c : Chan) (r : Rail) : Moves s (s.grant c r) := by
  unfold State.grant
  dsimp only
  refine .trans (.trans (.trans ?_ (moves_charge _ r _)) (moves_setCtl _ c _)) (moves_enterSoftstart _ c)
  exact .of_same ⟨rfl, rfl, rfl, rfl, rfl, rfl, rfl, rfl, rfl, rfl⟩ rfl

theorem moves_examineRail (r : Rail) : ∀ (n : Nat) (s : State), Moves s (State.examineRail r n s)
  | 0, s => .refl s
  | n + 1, s => by
    unfold State.examineRail
    split
    · exact ((moves_shed s _).trans (moves_grant _ _ r)).trans (moves_examineRail r n _)
    · exact .refl s

theorem moves_examineBoth : ∀ (n : Nat) (s : State), Moves s (State.examineBoth n s)
  | 0, s => .refl s
  | n + 1, s => by
    unfold State.examineBoth
    split
    · exact .refl s
    · exact (moves_examineRail .a _ s).trans (moves_examineBoth n _)
    · exact (moves_examineRail .b _ s).trans (moves_examineBoth n _)
    · split
      · rename_i r t hp
        have ht : Moves s t := by
          rcases (pick_spec hp).2 with h | h <;> subst h
          · exact .refl _
          · exact moves_draw s _
        exact (ht.trans (moves_examineRail r _ t)).trans (moves_examineBoth n _)
      · exact .refl s

/-- The examinations that follow an event. -/
theorem moves_settle (before after : State) : Moves after (State.settle before after) := by
  unfold State.settle
  split
  · exact .refl after
  · exact moves_examineBoth _ after

theorem moves_enterSwitchover (s : State) (c : Chan) (lost new : Rail) :
    Moves s (s.enterSwitchover c lost new) := by
  unfold State.enterSwitchover
  dsimp only
  have h := ((moves_quiet s c).trans (moves_setCtl _ c
    { s.ctl c with
      state := .switchover, sub := .noSub, chargedRail := some new
      softStart := none, blanking := none, stable := none
      deadTime := some (s.cfg c).deadTime })).trans (moves_reportChannel _ c (.switched lost new))
  split
  · exact h.trans (moves_cascade _ c)
  · exact h

/-- One channel of a loss list. -/
theorem moves_takeLoss (s : State) (r : Rail) (x : LossEntry) : Moves s (s.takeLoss r x) := by
  unfold State.takeLoss
  split
  · split
    · exact (((moves_shed s _).trans (moves_uncharge _ _)).trans (moves_charge _ _ _)).trans
        (moves_enterSwitchover _ _ _ _)
    · exact moves_stop s .railLost _
  · exact .refl s

/-- A loss expiry changes, of what the controllers never touch, the lost rail's monitor alone. -/
theorem moves_loseRail (s : State) (r : Rail) :
    Moves (s.setRail r { s.rail r with state := .down, lossTimer := none }) (s.loseRail r) := by
  unfold State.loseRail
  dsimp only
  exact (moves_foldl _ (fun t x => moves_takeLoss t r x) _ _).trans (moves_reportRail _ _)

/-- A silent claim drop changes, of what the controllers never touch, the claim table alone. -/
theorem moves_dropSilently (s : State) (named : Chan → HostId → Bool) :
    Moves (s.removeClaims named) (s.dropSilently named) := moves_recompute _

/-- Removing records touches the claim table alone. -/
theorem State.removeClaims_frame (s : State) (named : Chan → HostId → Bool) :
    s.removeClaims named = { s with claims := (s.removeClaims named).claims } := rfl

@[simp] theorem State.removeClaims_claimOf (s : State) (named : Chan → HostId → Bool) (c : Chan)
    (h : HostId) : (s.removeClaims named).claimOf c h = if named c h then none else s.claimOf c h := by
  simp [State.removeClaims, State.claimOf]

/-- The same records removed from two tables that agree. -/
theorem moves_removeClaims {s t : State} (h : Moves s t) (named : Chan → HostId → Bool) :
    Moves (s.removeClaims named) (t.removeClaims named) := by
  have e : (t.removeClaims named).claims = (s.removeClaims named).claims := by
    simp only [State.removeClaims, State.claimOf, h.kept.claims]
  rw [State.removeClaims_frame s, State.removeClaims_frame t, e]
  generalize (s.removeClaims named).claims = x
  exact ⟨⟨h.kept.pm, h.kept.deviceTime, h.kept.config, h.kept.lock, h.kept.ports, rfl, h.kept.xf,
    h.kept.enables, h.kept.rails, h.kept.pending⟩, h.grown⟩

/-- A reported claim drop likewise. -/
theorem moves_dropReported (s : State) (named : Chan → HostId → Bool) (cause : DropCause) :
    Moves (s.removeClaims named) (s.dropReported named cause) := by
  unfold State.dropReported
  dsimp only
  refine .trans (moves_removeClaims ?_ named) (moves_recompute _)
  apply moves_foldl; intro t c
  apply moves_foldl; intro u g
  split
  · exact moves_reportDrop u c g _ cause
  · exact .refl u
  · exact .refl u

end Sys2Proof.Machine
end

