-- ==== Sys2Proof/Laws/Port.lean ====
section
/-! SUPPORT. What a Host Port does with a request frame, said once for every command; and that every command answers a next state. -/

namespace Sys2Proof.Machine

/-- Every frame row is the frame taken by the body its CMD byte names. -/
theorem exec_request {i : Instr} {q : Request} (h : requestOf i = some q) (s : State) :
    exec i s = .next (s.takeFrame q.port q.seq q.cmd q.operands (commandBody q.cmd)) := by
  cases i <;> simp only [requestOf, Option.some.injEq, reduceCtorEq] at h <;> subst h <;> rfl

/-- No command ends in a fault or a refusal. -/
theorem exec_next (i : Instr) (s : State) : ∃ t, exec i s = .next t := by
  cases i
  case resetEnd =>
    simp only [exec, execResetEnd]; split <;> exact ⟨_, rfl⟩
  case loadCompletion =>
    simp only [exec, execLoadCompletion]; split <;> exact ⟨_, rfl⟩
  case commitCompletion =>
    simp only [exec, execCommitCompletion]; split <;> exact ⟨_, rfl⟩
  all_goals exact ⟨_, rfl⟩

/-! ### The frame's way through the port (R180, R184, R185) -/

theorem takeFrame_ignored {s : State} {h : HostId} (e : (s.port h).receiver ≠ .request)
    (seq cmd : Byte) (ops : List Byte) (body : Body) : s.takeFrame h seq cmd ops body = s := by
  simp [State.takeFrame, e]

theorem takeFrame_starting {s : State} {h : HostId} (e : (s.port h).receiver = .request)
    (l : s.isLoading = true) (seq cmd : Byte) (ops : List Byte) (body : Body) :
    s.takeFrame h seq cmd ops body = s.answer h seq (refuse .starting) := by
  simp [State.takeFrame, e, l]

/-- A new frame goes to the session check and the body. -/
theorem takeFrame_new {q : Request} {s : State} (h : q.isNew s = true) (body : Body) :
    s.takeFrame q.port q.seq q.cmd q.operands body =
      s.execute q.port q.seq q.cmd q.operands body := by
  simp only [Request.isNew, Bool.and_eq_true, Bool.not_eq_true', decide_eq_true_eq] at h
  obtain ⟨⟨⟨l, r⟩, n⟩, e⟩ := h
  have hs : (s.port q.port).stored q.seq = none := by
    unfold Port.stored
    cases hr : (s.port q.port).replay with
    | none => rfl
    | some x =>
      rw [hr] at e
      simp only [Option.all_some, Bool.or_eq_true, decide_eq_true_eq] at e
      rcases e with e | e <;> simp [e]
  simp [State.takeFrame, l, r, hs, Nat.not_lt.2 n]

/-- A frame whose SEQ is stored is answered from the store. -/
theorem takeFrame_meets {q : Request} {s : State} {e : ReplayEntry} (h : q.meets s e = true)
    (body : Body) :
    s.takeFrame q.port q.seq q.cmd q.operands body =
      s.replay q.port q.seq q.cmd q.operands e := by
  simp only [Request.meets, Bool.and_eq_true, Bool.not_eq_true', decide_eq_true_eq, ne_eq,
    decide_not] at h
  obtain ⟨⟨⟨⟨⟨l, r⟩, n⟩, p⟩, z⟩, w⟩ := h
  have hs : (s.port q.port).stored q.seq = some e := by
    have z : ¬q.seq = 0#8 := of_decide_eq_false z
    simp [Port.stored, p, w, z]
  simp [State.takeFrame, l, r, hs, Nat.not_lt.2 n]

/-- In an OPEN session the body runs with the lease renewed; its answer is stored and given. -/
theorem takeFrame_taken {q : Request} {s : State} (h : q.isTaken s = true) (body : Body) :
    s.takeFrame q.port q.seq q.cmd q.operands body =
      let out := body q.port q.operands (s.renewLease q.port)
      (out.1.store q.port q.seq q.cmd q.operands out.2).answer q.port q.seq out.2 := by
  simp only [Request.isTaken, Bool.and_eq_true, decide_eq_true_eq] at h
  rw [takeFrame_new h.1]
  simp [State.execute, Session.admits, h.2]

/-- The lease renewal touches the port's lease timer alone. -/
theorem renewLease_eq (s : State) (h : HostId) :
    s.renewLease h = s.setPort h (s.port h).renewed := by
  unfold State.renewLease Port.renewed
  by_cases e : (s.port h).session = .opened ∧ (s.port h).leaseTimer.isSome = true
  · simp [e.1, e.2, fullLease]
  · rw [if_neg e, if_neg (by simpa using e)]
    simp [State.setPort, State.port]

end Sys2Proof.Machine
end

