-- ==== Sys2Proof/Laws/Sensing.lean ====
section
/-! SUPPORT. The sample and the Sense Unit's events: what each can touch. -/

namespace Sys2Proof.Machine

/-- An event that changed nothing brings no examination. -/
@[simp] theorem State.settle_self (s : State) : State.settle s s = s := if_pos rfl

/-- Keeping a sample touches the Sense Unit alone: channel items, enable runs, rail inputs. -/
theorem State.keepSample_frame (s : State) (x : Sample) : s.keepSample x = { s with
    sense := (s.keepSample x).sense, enables := (s.keepSample x).enables
    rails := (s.keepSample x).rails } := rfl

@[simp] theorem State.keepSample_sen (s : State) (x : Sample) (c : Chan) :
    (s.keepSample x).sen c = sampleChannel (s.ctl c).state.closed (s.cfg c) (s.sen c)
      (look x.current c) (look x.voltage c) := by
  simp [State.keepSample, State.sen, State.ctl, State.cfg]

@[simp] theorem State.keepSample_line (s : State) (x : Sample) (k : LineId) :
    (s.keepSample x).line k = sampleLine (s.line k) (look x.en k) := by
  simp [State.keepSample, State.line]

/-- Ignoring the trips of blanked channels touches their flags alone. -/
theorem State.ignoreBlanked_frame (s : State) :
    s.ignoreBlanked = { s with sense := s.ignoreBlanked.sense } := rfl

@[simp] theorem State.ignoreBlanked_sen (s : State) (c : Chan) : s.ignoreBlanked.sen c =
    { s.sen c with tripPassed := (s.sen c).tripPassed && (s.ctl c).sub ≠ .blanking } := by
  simp [State.ignoreBlanked, State.sen]

/-- Within a sample an event that is left may come next while one without a row is left, an assertion not
before its line's level. -/
theorem mem_withinSample {l : List SenseEvent} {e : SenseEvent} : e ∈ withinSample l ↔
    e ∈ l ∧ e.mayComeNext l = true ∧ ∃ x ∈ l, x.hasRow = false := by
  unfold withinSample
  split
  · rename_i h
    simp only [List.all_eq_true] at h
    simp only [List.not_mem_nil, false_iff]
    rintro ⟨-, -, x, hx, hr⟩
    simp [h x hx] at hr
  · rename_i h
    simp only [List.all_eq_true, not_forall, Bool.not_eq_true] at h
    obtain ⟨x, hx, hr⟩ := h
    simp only [List.mem_filter]
    exact ⟨fun h => ⟨h.1, h.2, x, hx, hr⟩, fun h => ⟨h.1, h.2.1⟩⟩

/-- A sample's events end only when every one of them without a row has been taken. -/
theorem withinSample_eq_nil {l : List SenseEvent} :
    withinSample l = [] ↔ ∀ e ∈ l, e.hasRow = true := by
  constructor
  · intro h e he
    by_contra hr
    simp only [Bool.not_eq_true] at hr
    have no : ∀ x, x ∉ withinSample l := by simp [h]
    by_cases hk : e.mayComeNext l = true
    · exact no e (mem_withinSample.2 ⟨he, hk, e, he, hr⟩)
    · cases e <;> simp [SenseEvent.mayComeNext] at hk
      rename_i k c
      exact no (.xfLevel k true) (mem_withinSample.2 ⟨hk, rfl, _, hk, rfl⟩)
  · intro h
    simp only [withinSample, List.all_eq_true]
    exact if_pos h

theorem moves_ignoreBlanked (s : State) : Moves s s.ignoreBlanked := by
  rw [State.ignoreBlanked_frame]
  generalize s.ignoreBlanked.sense = x
  exact .of_same ⟨rfl, rfl, rfl, rfl, rfl, rfl, rfl, rfl, rfl, rfl⟩ rfl

/-- Entry to ON. -/
theorem moves_enterOn (s : State) (c : Chan) : Moves s (s.enterOn c) := by
  unfold State.enterOn
  exact ((moves_setCtl s c _).trans (moves_setSen _ c _)).trans (moves_reportChannel _ c _)

/-- A trip at its controller. -/
theorem moves_takeTrip (s : State) (c : Chan) : Moves s (s.takeTrip c) := by
  unfold State.takeTrip
  dsimp only
  split
  · split
    · exact (moves_setSen s c _).trans (moves_fault _ _ c)
    · exact moves_setSen s c _
  · exact .refl s

/-- A line's kept level changes, and nothing else (R96). -/
@[simp] theorem State.takeSenseEvent_xfLevel (s : State) (k : LineId) (high : Bool) :
    s.takeSenseEvent (.xfLevel k high) = { s with xf := put s.xf k high } := rfl

/-- A power-good event or an XF assertion at its controller. -/
theorem moves_takeSenseEvent (s : State) (c : Chan) (k : LineId) :
    Moves s (s.takeSenseEvent (.powerGoodArrival c)) ∧ Moves s (s.takeSenseEvent (.powerGoodLoss c)) ∧
      Moves s (s.takeSenseEvent (.xfAssertion k c)) := by
  refine ⟨?_, ?_, ?_⟩ <;> unfold State.takeSenseEvent <;> dsimp only <;> split
  · exact moves_enterOn s c
  · exact .refl s
  · exact moves_fault s _ c
  · exact .refl s
  · exact moves_fault s _ c
  · exact .refl s

/-- A complete enable run: of what the controllers never touch, the line alone changes. -/
theorem moves_takeEnable (s : State) (k : LineId) (h : qualifyRun ≤ (s.line k).run) :
    Moves (s.setLine k ⟨!(s.line k).qualified, 0⟩) (s.takeEnable k) := by
  unfold State.takeEnable
  rw [if_pos h]
  exact moves_recompute _

end Sys2Proof.Machine
end

