-- ==== Sys2Proof/Laws/Step.lean ====
section
/-! SUPPORT. Everything one step can do, and the induction over it for the laws that every step keeps. -/

namespace Sys2Proof.Machine

/-- The part's own next event is one that is due, and only the draw counter moves. -/
theorem ownEvent_spec {s t : State} {e : Instr} (h : s.ownEvent = some (e, t)) :
    e ∈ s.dueEvents ∧ ∃ n, t = { s with draws := n } := by
  unfold State.ownEvent at h
  cases hp : pick s.dueEvents s with
  | none => simp [hp] at h
  | some r =>
    obtain ⟨x, u⟩ := r
    simp only [hp, Option.some.injEq, Prod.mk.injEq] at h
    obtain ⟨m, d⟩ := pick_spec hp
    refine ⟨h.1 ▸ m, ?_⟩
    rcases d with d | d <;> rw [d] at h <;> exact ⟨_, h.2.symm⟩

theorem ownEvent_none {s : State} (h : s.ownEvent = none) : s.dueEvents = [] := by
  have e := pick_isSome s.dueEvents s
  unfold State.ownEvent at h
  cases hp : pick s.dueEvents s with
  | none => rw [hp] at e; simpa using e.symm
  | some r => simp [hp] at h

/-- A step runs the waiting command at the front, or on an empty queue one of the part's own due events,
or, with none due, lets a millisecond pass. -/
theorem step_cases {s t : State} (h : step s = .next t) :
    (∃ c rest, s.pending = c :: rest ∧ exec c { s with pending := rest } = .next t) ∨
    (s.pending = [] ∧ ∃ e ∈ s.dueEvents, ∃ n, exec e { s with draws := n } = .next t) ∨
    (s.pending = [] ∧ s.dueEvents = [] ∧ t = s.passTime) := by
  unfold step at h
  cases hp : s.pending with
  | cons c rest => rw [hp] at h; exact .inl ⟨c, rest, rfl, h⟩
  | nil =>
    rw [hp] at h
    refine .inr ?_
    cases ho : s.ownEvent with
    | some r =>
      obtain ⟨e, u⟩ := r
      simp only [ho] at h
      obtain ⟨m, n, rfl⟩ := ownEvent_spec ho
      refine .inl ⟨rfl, e, m, n, ?_⟩
      rw [← hp]
      exact h
    | none =>
      simp only [ho, Host.Outcome.next.injEq] at h
      exact .inr ⟨rfl, ownEvent_none ho, h.symm⟩

/-- A property that looks at neither the queue of commands nor the draw counter, and that every command
and a passing millisecond keep, is kept by every step. -/
theorem step_keeps {P : State → Prop} (hp : ∀ s l, P s → P { s with pending := l })
    (hd : ∀ s n, P s → P { s with draws := n })
    (he : ∀ i s t, P s → exec i s = .next t → P t) (ht : ∀ s, P s → P s.passTime)
    {s t : State} (hs : P s) (h : step s = .next t) : P t := by
  rcases step_cases h with ⟨c, rest, -, e⟩ | ⟨-, c, -, n, e⟩ | ⟨-, -, rfl⟩
  · exact he _ _ _ (hp _ _ hs) e
  · exact he _ _ _ (hd _ _ hs) e
  · exact ht _ hs

/-- The passing of a millisecond leaves everything but time, timers, leases and the commit's age. -/
theorem passTime_frame (s : State) :
    s.passTime = { s with
      deviceTime := s.passTime.deviceTime, channels := s.passTime.channels, rails := s.passTime.rails
      ports := s.passTime.ports, pm := { s.pm with store := s.passTime.pm.store } } := by
  unfold State.passTime
  split <;> rfl

end Sys2Proof.Machine
end

