-- ==== Sys2Proof/Tests/Slice0.lean ====
section
/-! SUPPORT. Tests: ill-formed commands refused by WellFormed, commands on small states against the manual, and for every obligation with hypotheses a state that meets them. -/

namespace Sys2Proof.Tests

open Sys2Proof.Machine

/-! ### WellFormed -/

def thirteen : List Byte := [0, 1, 2, 3, 4, 5, 6, 7, 8, 9, 10, 11, 12]

def twelve : List Byte := [0, 1, 2, 3, 4, 5, 6, 7, 8, 9, 10, 11]

/-- R181: LEN is 0 to 12. -/
theorem test_wellFormed_operands : Instr.wellFormed (.ping 0 1 thirteen) = false ∧
    Instr.wellFormed (.starting 0 1 0x04 thirteen) = false ∧
    Instr.wellFormed (.badCommand 0 1 0x77 thirteen) = false ∧
    Instr.wellFormed (.ping 0 1 twelve) = true := by decide

/-- R183: a LEN byte of 12 ends no frame with FRAME_ERROR, one of 13 does. -/
theorem test_wellFormed_len : Instr.wellFormed (.frameError 0 1 0x04 12) = false ∧
    Instr.wellFormed (.frameError 0 1 0x04 13) = true := by decide

/-- R184, R189: 0x04 is PING, 0x16 names no command. -/
theorem test_wellFormed_code : Instr.wellFormed (.badCommand 0 1 0x04 []) = false ∧
    Instr.wellFormed (.badCommand 0 1 0x16 []) = true := by decide

/-- The table gives no row any bits: no word spells a command. -/
theorem test_decode_none : decodeTableWord 8 0x04 = none ∧
    (State.reset.withFetchWord 16 5).pending = [] := by decide

/-! ### Small states -/

/-- The state that a command leads to. -/
def after (i : Instr) (s : State) : State :=
  match exec i s with
  | .next t => t
  | .fault _ | .refused _ => s

/-- The response bytes of port `h` after a command. -/
def answer (h : HostId) (i : Instr) (s : State) : List Byte := ((after i s).port h).response

/-- Past the load, everything else as reset leaves it. -/
def awake : State := { State.reset with pm := { State.reset.pm with store := .idle } }

/-- Port `h` in REQUEST, its session as given, lease period 5. -/
def session (h : HostId) (x : Session) (s : State) : State :=
  s.setPort h { s.port h with
    selected := true, receiver := .request, session := x, leasePeriod := 5
    leaseTimer := if x = .opened then some 100 else none }

/-- Host 1 OPEN, its request frame awaited. -/
def ready : State := session 1 .opened awake

/-- Host 1 OPEN and holder of the lock. -/
def locked : State := { ready with lock := some 1 }

/-- Channel `c` in a state, on rail A where that is a charged state. -/
def put (c : Chan) (x : ChannelState) (s : State) : State :=
  let t := s.setCtl c { s.ctl c with
    state := x, chargedRail := if x.charged then some .a else none, grantNumber := 0 }
  if x.charged then t.setAccount .a { t.account .a with charges := [⟨c, 10, 0⟩] }
  else if x = .queued then { t with queue := [⟨c, 0, 0⟩], admissionCounter := 1 }
  else t

/-- The controller of `c` changed. -/
def ctl (c : Chan) (f : Controller → Controller) (s : State) : State := s.setCtl c (f (s.ctl c))

/-- The record of `c` changed. -/
def cfg (c : Chan) (f : ChannelConfig → ChannelConfig) (s : State) : State := s.setCfg c (f (s.cfg c))

/-- Rail A UP. -/
def railUp (s : State) : State := s.setRail .a { s.rail .a with state := .up, good := true }

/-- Host 1's claim on CH0: priority 5, tag 7. -/
def claimed (s : State) : State := s.setClaim 0 1 (some ⟨.active, 5, 7, 0⟩)

/-- A part at work, by hand: host 1 claims CH0 and its child CH1; CH0 is ON on rail A, where 5 AU are
free; CH1 needs 10 and waits; CH2 is LATCHED; the others are OFF. -/
def busy : State :=
  let channels := tabulate fun c : Chan =>
    { Controller.atReset with
      state := if c = 0 then .isOn else if c = 1 then .queued else if c = 2 then .latched else .off
      chargedRail := if c = 0 then some .a else none
      retryCount := if c = 2 then 4 else 0
      demand := c = 0 || c = 1
      stable := if c = 0 then some 0 else none }
  let base : State := cfg 1 (fun f => { f with parent := some 0 }) (railUp ready)
  let held : State := { base with
    channels := channels
    claims := tabulate fun c => tabulate fun h =>
      if h = 1 && (c = 0 || c = 1) then some ⟨.active, 3, 7, 0⟩ else none
    config := { base.config with rails := ⟨⟨15, 2, 10⟩, RailConfig.default⟩ }
    queue := [⟨1, 3, 0⟩], admissionCounter := 1, grantCounter := 1
    accounts := ⟨⟨15, [⟨0, 10, 0⟩]⟩, ⟨0, []⟩⟩ }
  { held with demand := tabulate held.demandNow, pending := [.stableExpiry 0], lock := some 1 }

/-- A frame too short for its command. -/
def shortClaim : Instr := .claim 1 9 []

/-! ### Resets and start-up -/

/-- R199, R76: cause POWER_ON, every discharge switch closed. -/
theorem test_powerOnReset : (after .powerOnReset busy).pm.resetCause = .powerOn ∧
    (after .powerOnReset busy).dischargeSwitch 3 = true := by decide

/-- R199: cause PIN; within a power-on reset RESET_N is part of it. -/
theorem test_resetN : (after .resetN awake).pm.resetCause = .pin ∧
    (after .resetN State.reset).pm.resetCause = .powerOn := by decide

/-- R199: both slots erased, so the defaults are chosen. -/
theorem test_resetEnd : (after .resetEnd State.reset).pm.store = .loading (.chosen none) := by decide

/-- R76, R131: STOPPING with the default discharge time of 50 ms; R200: IDLE. -/
theorem test_loadCompletion :
    ((after .loadCompletion (after .resetEnd State.reset)).ctl 4).discharge = some 50 ∧
    (after .loadCompletion (after .resetEnd State.reset)).pm.store = .idle := by decide

/-! ### Transactions and frames (R180 to R197) -/

/-- R180: REQUEST after SEL_N falls, but not while the reset is asserted. -/
theorem test_transactionOpen : ((after (.transactionOpen 2) awake).port 2).receiver = .request ∧
    ((after (.transactionOpen 2) State.reset).port 2).receiver = .deselected := by decide

/-- R180: SDO is high impedance once SEL_N is high. -/
theorem test_transactionEnd : (after (.transactionEnd 1) ready).sdo 1 0 = none ∧
    ready.sdo 1 0 = some 0 := by decide

/-- R183. -/
theorem test_frameError : answer 1 (.frameError 1 7 0x04 13) ready = [0x04, 7, 0] := by decide

/-- R185. -/
theorem test_starting : answer 2 (.starting 2 7 0x04 [])
    (after (.transactionOpen 2) (after .resetEnd State.reset)) = [0x03, 7, 0] := by decide

/-- R184. -/
theorem test_badCommand : answer 1 (.badCommand 1 7 0x16 []) ready = [0x06, 7, 0] := by decide

/-- R190: six bytes, part code 0x1604; the host number is the port's. -/
theorem test_identify : (answer 1 (.identify 1 7 []) ready).take 5 = [1, 7, 6, 0x16, 0x04] ∧
    (answer 1 (.identify 1 7 []) ready).drop 6 = [1, 16, 4] := by decide

/-- R191. -/
theorem test_ping : answer 1 (.ping 1 7 [9, 8]) ready = [1, 7, 6, 0, 0, 0, 0, 9, 8] := by decide

/-- R187: the same frame again has the same answer, another with its SEQ SEQ_REUSED. -/
theorem test_replay :
    let s := session 1 .opened (after (.ping 1 7 [9]) ready)
    answer 1 (.ping 1 7 [9]) { s with deviceTime := 77 } = [1, 7, 5, 0, 0, 0, 0, 9] ∧
    answer 1 (.ping 1 7 [8]) s = [0x19, 7, 0] := by decide

/-! ### Sessions and the lock -/

/-- R151: POWER_ON, loaded generation 0, nothing adopted, no previous session, no holder. -/
theorem test_open : answer 3 (.openSession 3 2 [10, 1, 1]) (session 3 .closed awake) =
    [1, 2, 8, 0, 0, 0, 0, 0, 0, 0, 255] ∧
    ((after (.openSession 3 2 [10, 1, 1]) (session 3 .closed awake)).port 3).leaseTimer = some 1000 := by
  decide

/-- R158: two claims removed. -/
theorem test_close : answer 1 (.closeSession 1 2 []) busy = [1, 2, 1, 2] ∧
    ((after (.closeSession 1 2 []) busy).ctl 0).state = .stopping := by decide

/-- R161: the holder is named to another host. -/
theorem test_lock : answer 0 (.lock 0 2 []) (session 0 .opened locked) = [0x0E, 2, 1, 1] ∧
    (after (.lock 1 2 []) ready).lock = some 1 := by decide

/-- R162. -/
theorem test_unlock : (after (.unlock 1 2 []) locked).lock = none ∧
    answer 1 (.unlock 1 2 []) ready = [0x0F, 2, 0] := by decide

/-- R159: the orphan of a LAPSED host is removed and counted. -/
theorem test_dropClaims :
    answer 1 (.dropClaims 1 2 [3])
      ((session 3 .lapsed locked).setClaim 5 3 (some ⟨.orphaned, 2, 0, 0⟩)) = [1, 2, 1, 1] := by decide

/-- R154, R155: KEEP orphans the claims and frees the lock. -/
theorem test_lapse :
    let s := claimed (locked.setPort 1 { locked.port 1 with leaseTimer := some 0 })
    (after (.lapse 1) s).claimOf 0 1 = some ⟨.orphaned, 5, 7, 0⟩ ∧ (after (.lapse 1) s).lock = none := by
  decide

/-! ### Claims, notices and reads -/

/-- R8, R16: a first claim on an OFF channel makes it QUEUED; demand flags own and effective, priority 5. -/
theorem test_claim :
    answer 1 (.claim 1 2 [0, 5, 0, 7]) (put 0 .off ready) = [1, 2, 7, 0, 0, 0, 0, 0, 3, 5] ∧
    ((after (.claim 1 2 [0, 5, 0, 7]) (put 0 .off ready)).ctl 0).state = .queued := by decide

/-- R9: the record's priority and tag; nobody is left to want the channel. -/
theorem test_release : answer 1 (.release 1 2 [0]) (claimed (put 0 .off ready)) =
      [1, 2, 5, 5, 0, 7, 0, 0] ∧
    answer 1 (.release 1 2 [0]) ready = [0x0C, 2, 0] := by decide

/-- R196: ON, no sub-state, ENABLED, rail A, own and effective demand, priority 3, own priority 3, class 10. -/
theorem test_channelStatus : ((answer 1 (.channelStatus 1 2 [0]) busy).drop 3).take 8 =
    [4, 0, 0, 0, 3, 3, 3, 10] := by decide

/-- R47: rail A UP, limit 15, allocated 10, free 5, one charge, candidate L1; rail B DOWN; one entry. -/
theorem test_railStatus : answer 1 (.railStatus 1 2 []) busy =
    [1, 2, 19, 2, 0, 15, 0, 10, 0, 5, 1, 1, 0, 0, 0, 0, 0, 0, 0, 0, 255, 1] := by decide

/-- R174, R195: FAULTED with cause FORCED, count 3, latched. -/
theorem test_nextNotice :
    answer 1 (.nextNotice 1 2 []) (ready.setNotices 1 [⟨.faulted .forced 3 true, some 6, some .latched, 0x0102,
      9, true⟩]) = [1, 2, 16, 3, 6, 5, 8, 1, 2, 3, 1, 0, 0, 0, 0, 0, 9, 1, 0] ∧
    answer 1 (.nextNotice 1 2 []) ready = [2, 2, 0] := by decide

/-- R142: the defaults of R131, and what 16 is answered. -/
theorem test_getChannelConfig : answer 1 (.getChannelConfig 1 2 [15]) ready =
    [1, 2, 20, 0, 0, 15, 0, 0, 255, 10, 20, 2, 0, 20, 5, 50, 5, 1, 3, 10, 0, 50, 0] ∧
    answer 1 (.getChannelConfig 1 2 [16]) ready = [8, 2, 0] := by decide

/-- R144: the default view. -/
theorem test_getViewEntry : answer 1 (.getViewEntry 1 2 [3, 9]) ready = [1, 2, 2, 9, 0] := by decide

/-- R143: the defaults. -/
theorem test_getRail : answer 1 (.getRail 1 2 [1]) ready = [1, 2, 4, 0, 0, 2, 10] := by decide

/-- R204: IDLE, both slots erased and invalid, generation 0. -/
theorem test_profileStatus : answer 1 (.profileStatus 1 2 []) ready =
    [1, 2, 15, 0, 255, 255, 255, 255, 0, 255, 255, 255, 255, 0, 0, 0, 0, 0] := by decide

/-! ### Administration -/

/-- R111: LATCHED without a discharge and without demand goes to OFF; R110: NOT_FAULTED in ON. -/
theorem test_clearFault : answer 1 (.clearFault 1 2 [2]) busy = [1, 2, 2, 1, 0] ∧
    answer 1 (.clearFault 1 2 [0]) busy = [0x0D, 2, 0] := by decide

/-- R68: ON is stopped, its charge returned. -/
theorem test_hold : answer 1 (.hold 1 2 [0]) busy = [1, 2, 2, 6, 1] ∧
    ((after (.hold 1 2 [0]) busy).account .a).charges = [] := by decide

/-- R69: OFF with demand is QUEUED again; with no rail UP it waits. -/
theorem test_unhold :
    answer 1 (.unhold 1 2 [0]) (ctl 0 (fun k => { k with demand := true })
      (cfg 0 (fun f => { f with admin := .held, policy := .pinned }) (put 0 .off locked))) =
    [1, 2, 2, 2, 0] := by decide

/-- R140: retired, no claims to drop; HAS_CHILDREN for CH0 in OFF with a child. -/
theorem test_retire : answer 1 (.retire 1 2 [4]) (put 4 .off locked) = [1, 2, 2, 0, 0] ∧
    answer 1 (.retire 1 2 [0]) (put 0 .off (cfg 1 (fun f => { f with parent := some 0 }) locked)) =
      [0x13, 2, 0] := by decide

/-- R71: STOPPING while the discharge runs. -/
theorem test_restore : answer 1 (.restore 1 2 [4]) (ctl 4 (fun k => { k with discharge := some 9 })
    (put 4 .retired (cfg 4 (fun f => { f with admin := .retired }) locked))) = [1, 2, 2, 6, 0] := by decide

/-! ### Configuration -/

/-- R135: class 30 above the trip threshold 20 is BAD_VALUE; a good record is written. -/
theorem test_setChannelPower :
    answer 1 (.setChannelPower 1 2 [4, 30, 20, 2, 0, 20, 5, 50, 5]) (put 4 .off locked) = [8, 2, 0] ∧
    ((after (.setChannelPower 1 2 [4, 30, 31, 2, 3, 20, 5, 50, 5]) (put 4 .off locked)).cfg 4).feed =
      .bThenA := by decide

/-- R136: a channel is no parent of itself; a policy of an ON channel is CHANNEL_ACTIVE. -/
theorem test_setChannelPolicy :
    answer 1 (.setChannelPolicy 1 2 [4, 0, 15, 0, 0, 4]) (put 4 .off locked) = [0x12, 2, 0] ∧
    answer 1 (.setChannelPolicy 1 2 [4, 0, 15, 0, 0, 255]) (put 4 .isOn locked) = [0x11, 2, 0] := by decide

/-- R109: a LATCHED channel's count becomes the new limit plus 1. -/
theorem test_setChannelFault :
    ((after (.setChannelFault 1 2 [2, 10, 7, 1, 0, 1, 1]) busy).ctl 2).retryCount = 8 ∧
    ((after (.setChannelFault 1 2 [2, 10, 7, 1, 0, 1, 1]) busy).cfg 2).faultSource = .forced := by decide

/-- R145: CLAIM_PRESENT, and a watch flag alone. -/
theorem test_setViewEntry : answer 1 (.setViewEntry 1 2 [1, 0, 9, 0]) busy = [0x15, 2, 0] ∧
    answer 1 (.setViewEntry 1 2 [1, 0, 0, 1]) busy = [1, 2, 2, 0, 1] := by decide

/-- R143: a limit of 25 makes room for nobody while CH1's entry waits on 10 AU more than 5; here it is
granted: 20 allocated, 5 free. Below the 10 allocated it is OVER_ALLOCATED. -/
theorem test_setRail : answer 1 (.setRail 1 2 [0, 0, 25, 2, 10]) busy = [1, 2, 6, 0, 25, 0, 20, 0, 5] ∧
    answer 1 (.setRail 1 2 [0, 0, 9, 2, 10]) busy = [0x14, 2, 0] := by decide

/-- R201: generation 1; a second COMMIT is BUSY. -/
theorem test_commit : answer 1 (.commit 1 2 []) locked = [1, 2, 4, 0, 0, 0, 1] ∧
    answer 1 (.commit 1 3 []) (session 1 .opened (after (.commit 1 2 []) locked)) = [0x18, 3, 0] := by decide

/-- A commit of host 1 to slot 0 in progress. -/
def writing (age : Nat) : State :=
  { awake with pm := { awake.pm with store := .writing ⟨.slot0, 1, awake.config, 1, age⟩ } }

/-- R202: from 30 ms on; the target becomes the current slot. -/
theorem test_commitCompletion : (after (.commitCompletion true) (writing 30)).pm.currentSlot = some .slot0 ∧
    (after (.commitCompletion true) (writing 29)).pm.currentSlot = none := by decide

/-! ### Sensing and timers -/

/-- A sample with nothing on the inputs but the current of CH0 and the level of rail A. -/
def sample (current : Nat) (v : VoltageBand) : Sample :=
  ⟨tabulate fun c => if c = 0 then BitVec.ofNat 16 current else 0,
    tabulate fun c => if c = 0 then v else .between,
    Vector.replicate 4 false, Vector.replicate 4 true, true, false⟩

/-- R94: 2010 mA is above 20 AU, and at trip filter 2 the third such sample in a row passes the trip. R95: in
BLANKING that trip is ignored, and the run goes on. R62: power-good in SOFTSTART gives ON, stable timer 1 s. -/
theorem test_senseSample :
    let next (s : State) := after (.senseSample (sample 201 .between)) (s.setSen 0 { s.sen 0 with tripRun := 2 })
    let s := put 0 .isOn (railUp ready)
    let t := ctl 0 (fun k => { k with sub := .blanking }) (put 0 .softstart (railUp ready))
    ((next s).sen 0).tripPassed = true ∧ ((next s).sen 0).measured = 201 ∧
      ((next t).sen 0).tripPassed = false ∧ ((next t).sen 0).tripRun = 3 ∧
    (let u := after (.senseSample (sample 5 .atOrAboveRise)) (put 0 .softstart (railUp ready))
     (u.ctl 0).state = .isOn ∧ (u.ctl 0).stable = some 1000) := by decide

/-- R97: CH1, whose source is XF2, is granted by its parent's power-good in the sample that finds XF2 high. The
grant first enters SOFTSTART, and the assertion faults it there; the level first faults it at its entry. -/
theorem test_grantAndAssertion :
    let s : State := (cfg 1 (fun f => { f with faultSource := .xf 2 }) (ctl 0 (fun k => { k with state := .softstart })
      (busy.setSen 0 { busy.sen 0 with powerGood := true }))).setAccount .a ⟨20, [⟨0, 10, 0⟩]⟩
    let take (l : List SenseEvent) : State := l.foldl (fun u e => State.settle u (u.takeSenseEvent e)) s
    let faulted (u : State) : Bool := (u.ctl 1).retryCount = 1 && (u.ctl 1).lastFault = some .external
    ((take [.powerGoodArrival 0]).ctl 1).state = .softstart ∧
    faulted (take [.powerGoodArrival 0, .xfLevel 2 true, .xfAssertion 2 1]) = true ∧
    faulted (take [.xfLevel 2 true, .xfAssertion 2 1, .powerGoodArrival 0]) = true := by decide

/-- R95, R100, R102: OVERCURRENT; first retry after the base, 10 × 10 ms. -/
theorem test_tripEvent :
    let s := put 0 .isOn (railUp ready)
    ((after (.tripEvent 0) (s.setSen 0 { s.sen 0 with tripPassed := true })).ctl 0).lastFault =
      some .overcurrent ∧
    ((after (.tripEvent 0) (s.setSen 0 { s.sen 0 with tripPassed := true })).ctl 0).backoff = some 100 := by
  decide

/-- R4: four samples in a row. -/
theorem test_enableEvent : ((after (.enableEvent 2) (ready.setLine 2 ⟨false, 4⟩)).line 2).qualified = true ∧
    ((after (.enableEvent 2) (ready.setLine 2 ⟨false, 3⟩)).line 2).qualified = false := by decide

/-- R74: RELEASE drops the claim of host 1. -/
theorem test_detachEvent :
    let s := claimed (cfg 0 (fun f => { f with detachAction := .release }) (put 0 .isOn (railUp ready)))
    (after (.detachEvent 0) (s.setSen 0 { s.sen 0 with detachPassed := true })).claimOf 0 1 = none ∧
    ((after (.detachEvent 0) (s.setSen 0 { s.sen 0 with detachPassed := true })).noticesOf 1).length = 2 := by
  decide

/-- R58. -/
theorem test_blankingExpiry : ((after (.blankingExpiry 0)
    (ctl 0 (fun k => { k with blanking := some 0, sub := .blanking }) (put 0 .softstart awake))).ctl 0).sub =
    .ramp := by decide

/-- R99, R101: with the retry count at the limit 3 the channel latches. -/
theorem test_softStartExpiry :
    let s := ctl 0 (fun k => { k with softStart := some 0, retryCount := 3 }) (put 0 .softstart awake)
    ((after (.softStartExpiry 0) s).ctl 0).state = .latched ∧
    ((after (.softStartExpiry 0) s).ctl 0).lastFault = some .softstartTimeout := by decide

/-- R63. -/
theorem test_stableExpiry : ((after (.stableExpiry 0)
    (ctl 0 (fun k => { k with stable := some 0, retryCount := 2 }) (put 0 .isOn awake))).ctl 0).retryCount =
    0 := by decide

/-- R67: without demand, OFF; not due, nothing. -/
theorem test_dischargeExpiry :
    ((after (.dischargeExpiry 0) (ctl 0 (fun k => { k with discharge := some 0 }) awake)).ctl 0).state = .off ∧
    ((after (.dischargeExpiry 0) (ctl 0 (fun k => { k with discharge := some 1 }) awake)).ctl 0).state =
      .stopping := by decide

/-- R106: wanted, it is QUEUED with its count kept. -/
theorem test_backoffExpiry :
    let s := ctl 0 (fun k => { k with backoff := some 0, demand := true, retryCount := 2 }) (put 0 .retryWait awake)
    ((after (.backoffExpiry 0) s).ctl 0).state = .queued ∧
    ((after (.backoffExpiry 0) s).ctl 0).retryCount = 2 := by decide

/-- R126: SOFTSTART in BLANKING with the default 20 ms. -/
theorem test_deadTimeExpiry :
    let s := ctl 0 (fun k => { k with deadTime := some 0 }) (put 0 .switchover (railUp awake))
    ((after (.deadTimeExpiry 0) s).ctl 0).softStart = some 20 ∧
    ((after (.deadTimeExpiry 0) s).ctl 0).sub = .blanking := by decide

/-- Rail A with a timer that has run out. -/
def railAt (x : RailState) (s : State) : State :=
  s.setRail .a ⟨x = .rising, x, if x = .rising then some 0 else none, if x = .falling then some 0 else none⟩

/-- R114, R116: UP, and every OPEN host is told. -/
theorem test_restoreExpiry : ((after (.restoreExpiry .a) (railAt .rising ready)).rail .a).state = .up ∧
    ((after (.restoreExpiry .a) (railAt .rising ready)).noticesOf 1).map Notice.report = [.railUp .a] := by
  decide

/-- R119, R120: CH0 is fed by A only, so it stops with RAIL_LOST; RAIL DOWN comes last. -/
theorem test_lossExpiry :
    ((after (.lossExpiry .a) (railAt .falling busy)).noticesOf 1).map Notice.report =
      [.stopped .railLost (some .a), .railDown .a] ∧
    ((after (.lossExpiry .a) (railAt .falling busy)).account .a).charges = [] := by decide

/-- R120, R124: fed by A then B, with B UP and 10 AU free there, it moves. -/
theorem test_switchover :
    let s := (railAt .falling (cfg 0 (fun f => { f with feed := .aThenB }) (put 0 .isOn ready))).setRail .b
      ⟨true, .up, none, none⟩
    let t := after (.lossExpiry .a) (s.setAccount .b ⟨10, []⟩)
    (t.ctl 0).state = .switchover ∧ (t.account .b).charges = [⟨0, 10, 0⟩] := by decide

/-! ### Witnesses: states and operands that meet the hypotheses of the obligations -/

theorem witness_StepRunsFrontCommand : busy.pending = .stableExpiry 0 :: [] := by decide

theorem witness_IdleStepCountsAMillisecond :
    (awake.pending = [] ∧ awake.isLoading = false ∧ awake.dueEvents = [] ∧ awake.pm.store = .idle) ∧
    (writing 79).pending = [] ∧ (writing 79).isLoading = false ∧ (writing 79).dueEvents = [] := by
  decide

theorem witness_ResetsLeaveTheResetValues : awake.inPowerOnReset = false ∧
    State.reset.inPowerOnReset = true := by decide

/-- A slot with its check. -/
def valid (g : BitVec 32) : Slot :=
  ⟨g, some Configuration.default, Config.profileCheck g Configuration.default⟩

theorem valid_isValid : (valid 1).isValid = true ∧ (valid 2).isValid = true ∧
    Slot.erased.isValid = false := by
  simp [valid, Slot.isValid, emptyGeneration, Slot.erased]

/-- The part in reset with these slots. -/
def stored (x y : Slot) : State := { State.reset with pm := { State.reset.pm with slot0 := x, slot1 := y } }

/-- All four cases of the choice, the two generations equal and unequal. -/
theorem witness_ResetEndChoosesTheNewestValidSlot :
    (∀ x y, (stored x y).pm.store = .loading .inReset ∧ (stored x y).pm.slot0 = x ∧
      (stored x y).pm.slot1 = y) ∧
    (valid 1).isValid = true ∧ (valid 2).isValid = true ∧ Slot.erased.isValid = false :=
  ⟨fun _ _ => ⟨rfl, rfl, rfl⟩, valid_isValid⟩

/-- A configuration in which no channel has a parent is a forest. -/
theorem forest_of_flat {x : Configuration} (h : ∀ c, (look x.channels c).parent = none) : ForestLaw x :=
  ⟨fun _ => 1, fun c => by rw [h c]⟩

/-- CH0 RETIRED, CH1 PINNED with discharge time 0, CH2 HELD with discharge time 0. -/
def image : Configuration := { Configuration.default with
  channels := tabulate fun c =>
    if c = 0 then { ChannelConfig.default with admin := .retired }
    else if c = 1 then { ChannelConfig.default with policy := .pinned, dischargeTime := 0 }
    else if c = 2 then { ChannelConfig.default with admin := .held, dischargeTime := 0 }
    else ChannelConfig.default }

/-- The load about to complete, from slot 0 or from the defaults. -/
def loading (choice : Option SlotId) : State := { State.reset with
  pm := { State.reset.pm with slot0 := ⟨1, some image, 0⟩, store := .loading (.chosen choice) } }

theorem witness_LoadCompletionStartsThePart :
    ((loading none).pm.store = .loading (.chosen none) ∧ LoadingLaw (loading none) ∧
      ForestLaw Configuration.default) ∧
    (loading (some .slot0)).pm.store = .loading (.chosen (some .slot0)) ∧
      LoadingLaw (loading (some .slot0)) ∧
      ((loading (some .slot0)).pm.slot .slot0).image = some image ∧ ForestLaw image :=
  ⟨⟨rfl, fun _ => ⟨rfl, by decide⟩, forest_of_flat (by decide)⟩,
    rfl, fun _ => ⟨rfl, by decide⟩, rfl, forest_of_flat (by decide)⟩

theorem witness_TransactionsOpenAndEnd :
    ((awake.port 2).selected = false ∧ awake.resetAsserted = false ∧ (awake.port 2).receiver ≠ .request ∧
      requestOf (.ping 2 1 []) = some ⟨2, 1, 0x04, []⟩) ∧
    ((State.reset.port 2).selected = false ∧ State.reset.resetAsserted = true) ∧
    ((ready.port 1).selected = true ∧ (ready.port 1).receiver = .request) ∧
    (let s := after (.ping 1 7 []) ready
     (s.port 1).selected = true ∧ (s.port 1).receiver = .response ∧ (s.port 1).response[6]? = some 0 ∧
      (s.port 1).response.length ≤ 7) := by decide

theorem witness_FrameErrorEndsTheFrameAtLen :
    (ready.port 1).receiver = .request ∧ 12 < (13 : Byte).toNat ∧ 12 < (255 : Byte).toNat := by decide

theorem witness_FramesAreTurnedAway :
    (requestOf (.badCommand 1 1 0xFF twelve) = some ⟨1, 1, 0xFF, twelve⟩ ∧ twelve.length ≤ 12 ∧
      (session 1 .closed (after .resetEnd State.reset)).isLoading = true ∧
      ((session 1 .closed (after .resetEnd State.reset)).port 1).receiver = .request) ∧
    (Request.isNew ⟨1, 0, 0x04, []⟩ (session 1 .closed awake) = true ∧
      Request.isNew ⟨1, 1, 0x77, []⟩ (session 1 .lapsed awake) = true ∧
      ((session 1 .lapsed awake).port 1).session ≠ .opened) ∧
    isCommandCode 0x00 = false ∧ isCommandCode 0x42 = false ∧
      Request.isTaken ⟨1, 1, 0x42, []⟩ ready = true := by decide

/-- Host 1's port with a PING in its replay store. -/
def repeated : State :=
  ready.setPort 1 { ready.port 1 with replay := some ⟨7, 0x04, [9], [1, 7, 5, 0, 0, 0, 0, 9]⟩ }

theorem witness_ReplayStoreAnswersItsSeq :
    requestOf (.ping 1 7 [9]) = some ⟨1, 7, 0x04, [9]⟩ ∧ requestOf (.lock 1 7 []) = some ⟨1, 7, 0x05, []⟩ ∧
    Request.meets ⟨1, 7, 0x04, [9]⟩ repeated ⟨7, 0x04, [9], [1, 7, 5, 0, 0, 0, 0, 9]⟩ = true ∧
    Request.meets ⟨1, 7, 0x05, []⟩ repeated ⟨7, 0x04, [9], [1, 7, 5, 0, 0, 0, 0, 9]⟩ = true := by decide

theorem witness_LockCommandsNeedTheLock :
    requestOf (.commit 1 1 []) = some ⟨1, 1, 0x40, []⟩ ∧ Request.isTaken ⟨1, 1, 0x40, []⟩ ready = true ∧
    (0x40 : Byte) ∈ lockCommands ∧ ready.lock ≠ some 1 ∧
    ({ ready with lock := some 2 } : State).lock ≠ some 1 := by decide

theorem witness_RefusalsChangeNothing :
    requestOf shortClaim = some ⟨1, 9, 0x10, []⟩ ∧ exec shortClaim ready = .next (after shortClaim ready) ∧
    ((after shortClaim ready).port 1).response.head? ≠ some 0x01 ∧
    ((after shortClaim ready).port 1).response.head? ≠ some 0x02 :=
  ⟨rfl, rfl, by decide, by decide⟩

theorem witness_IdentifyNamesThePart :
    Request.isNew ⟨1, 1, 0x01, []⟩ ready = true ∧ Request.isNew ⟨1, 0, 0x01, [5]⟩ ready = true ∧
    ((session 1 .closed awake).port 1).session ≠ .opened ∧
    Request.isNew ⟨1, 1, 0x01, []⟩ (session 1 .closed awake) = true ∧
    Request.isNew ⟨1, 1, 0x04, []⟩ (session 1 .closed awake) = true := by decide

/-- CH0 is charged, CH1 QUEUED, CH5 neither. -/
theorem witness_ChannelStatusReportsTheChannel :
    (∀ l : Chan, (busy.viewEntry 1 l).physical = some l) ∧
    Request.isTaken ⟨1, 1, 0x12, [chanByte 0]⟩ busy = true ∧
    Request.isTaken ⟨1, 1, 0x12, [chanByte 1]⟩ busy = true ∧
    Request.isTaken ⟨1, 1, 0x12, [chanByte 15]⟩ busy = true ∧
    (⟨0, 10, 0⟩ : Charge) ∈ (busy.account .a).charges ∧ (⟨1, 3, 0⟩ : QueueEntry) ∈ busy.queue ∧
    (busy.ctl 5).state ≠ .queued := by decide

theorem uncharged_witness : Uncharged busy 5 := by
  intro r; cases r <;> decide

/-- CH9 waits for a parent that is not ON, before CH1, which is rail A's candidate; rail B has none. -/
theorem witness_RailStatusReportsBothRails :
    Request.isTaken ⟨1, 1, 0x13, []⟩ busy = true ∧
    (let s : State := cfg 9 (fun f => { f with parent := some 8 }) { busy with queue := [⟨9, 4, 1⟩, ⟨1, 3, 0⟩] }
     s.queue = [⟨9, 4, 1⟩] ++ ⟨1, 3, 0⟩ :: [] ∧ s.target 1 = some .a ∧ (s.cfg 1).parent = some 0 ∧
      (s.ctl 0).state = .isOn ∧ s.target 9 = some .a ∧ (s.cfg 9).parent = some 8 ∧
      (s.ctl 8).state ≠ .isOn) ∧
    busy.target 1 ≠ some .b := by decide

theorem witness_GetChannelConfigReadsTheRecord :
    Request.isTaken ⟨1, 1, 0x33, []⟩ ready = true ∧ Request.isTaken ⟨1, 1, 0x33, [1, 2]⟩ ready = true ∧
    Request.isTaken ⟨1, 1, 0x33, [16]⟩ ready = true ∧ 15 < (16 : Byte).toNat ∧
    Request.isTaken ⟨1, 1, 0x33, [chanByte 15]⟩ ready = true := by decide

theorem witness_PlainReadsAnswerWhatStands :
    Request.isTaken ⟨1, 1, 0x04, twelve⟩ ready = true ∧
    Request.isTaken ⟨1, 1, 0x35, [hostByte 3, chanByte 15]⟩ ready = true ∧
    Request.isTaken ⟨1, 1, 0x37, [Rail.code .b]⟩ ready = true ∧
    Request.isTaken ⟨1, 1, 0x41, []⟩ ready = true ∧ Request.isTaken ⟨1, 1, 0x41, [0]⟩ ready = true := by
  decide

theorem witness_OpenStartsUpdatesOrAdopts :
    (Request.isNew ⟨1, 1, 0x02, [255, 1, 1]⟩ (session 1 .closed awake) = true ∧
      ((session 1 .closed awake).port 1).session = .closed) ∧
    (Request.isNew ⟨1, 1, 0x02, [0, 0, 0]⟩ locked = true ∧ (locked.port 1).session = .opened ∧
      locked.lock = some 1 ∧ ready.lock ≠ some 1 ∧ (0 : Byte).toNat = 0 ∧ (1 : Byte).toNat ≠ 0) ∧
    Request.isNew ⟨1, 1, 0x02, [0, 0, 0]⟩ (session 1 .lapsed awake) = true ∧
      ((session 1 .lapsed awake).port 1).session = .lapsed := by decide

theorem witness_CloseEndsTheSession : Request.isTaken ⟨1, 1, 0x03, []⟩ busy = true := by decide

theorem witness_LockIsTakenAndFreed :
    Request.isTaken ⟨1, 1, 0x05, []⟩ ready = true ∧ Request.isTaken ⟨1, 1, 0x05, [0]⟩ ready = true ∧
    Request.isTaken ⟨1, 1, 0x06, []⟩ locked = true ∧ Request.isTaken ⟨1, 1, 0x06, [0]⟩ locked = true ∧
    (ready.port 1).leasePeriod ≠ 0 ∧ ready.lock = none ∧ locked.lock = some 1 ∧
    (({ ready with lock := some 0 } : State).lock = some 0 ∧
      Request.isTaken ⟨1, 1, 0x05, []⟩ { ready with lock := some 0 } = true) ∧
    (let s := ready.setPort 1 { ready.port 1 with leasePeriod := 0, leaseTimer := none }
     (s.port 1).leasePeriod = 0 ∧ Request.isTaken ⟨1, 1, 0x05, []⟩ s = true) := by decide

theorem witness_DropClaimsRemovesOrphans :
    Request.isTaken ⟨1, 1, 0x38, [hostByte 1]⟩ locked = true ∧ locked.lock = some 1 ∧
    (locked.port 1).session = .opened ∧ (locked.port 0).session = .closed ∧
    Request.isTaken ⟨1, 1, 0x38, [hostByte 3]⟩ (session 3 .lapsed locked) = true ∧
    ((session 3 .lapsed locked).port 3).session = .lapsed := by decide

/-- A lease that has run out, with each orphan mode. -/
def runOut (mode : OrphanMode) : State :=
  busy.setPort 1 { busy.port 1 with leaseTimer := some 0, orphanMode := mode }

theorem witness_LapseEndsTheLease : (runOut .keep).isLoading = false ∧
    ((runOut .keep).port 1).session = .opened ∧ ((runOut .keep).port 1).leaseTimer = some 0 ∧
    ((runOut .keep).port 1).orphanMode = .keep ∧ ((runOut .drop).port 1).orphanMode = .drop := by decide

theorem witness_ClaimChecksInOrder :
    (Request.isTaken ⟨1, 1, 0x10, [0, 0, 0]⟩ ready = true ∧
      Request.isTaken ⟨1, 1, 0x10, [16, 0, 0, 0]⟩ ready = true ∧ 15 < (16 : Byte).toNat ∧
      Request.isTaken ⟨1, 1, 0x10, [0, 8, 0, 0]⟩ ready = true ∧ 7 < (8 : Byte).toNat ∧
      Request.isTaken ⟨1, 1, 0x10, [chanByte 15, 7, 0, 0]⟩ ready = true ∧ (7 : Byte).toNat ≤ 7) ∧
    (∃ s : State, Request.isTaken ⟨1, 1, 0x10, [chanByte 15, 7, 0, 0]⟩ s = true ∧
      (s.viewEntry 1 15).physical = none) ∧
    (∀ p ∈ [Policy.line, .pinned], ((cfg 15 (fun f => { f with policy := p }) ready).cfg 15).policy = p) ∧
    ((cfg 15 (fun f => { f with admin := .retired }) ready).cfg 15).admin = .retired ∧
    ((cfg 15 (fun f => { f with claimants := 1 }) ready).cfg 15).claimants.getLsbD 1 = false ∧
    (ready.viewEntry 1 15).physical = some 15 :=
  ⟨by decide, ⟨ready.setViewEntry 1 15 ⟨none, false⟩, by decide, by decide⟩, by decide, by decide, by decide,
    by decide⟩

theorem witness_ClaimIsRecorded :
    Request.isTaken ⟨1, 1, 0x10, [chanByte 3, 7, 1, 2]⟩ busy = true ∧ (7 : Byte).toNat ≤ 7 ∧
    (busy.viewEntry 1 3).physical = some 3 ∧ (busy.cfg 3).admin ≠ .retired ∧ (busy.cfg 3).policy = .any ∧
    (busy.cfg 3).claimants.getLsbD 1 = true := by decide

theorem witness_ReleaseRemovesTheClaim :
    Request.isTaken ⟨1, 1, 0x11, [chanByte 0]⟩ busy = true ∧
    Request.isTaken ⟨1, 1, 0x11, [chanByte 3]⟩ busy = true ∧
    (busy.viewEntry 1 0).physical = some 0 ∧ (busy.viewEntry 1 3).physical = some 3 ∧
    busy.claimOf 0 1 = some ⟨.active, 3, 7, 0⟩ ∧ busy.claimOf 3 1 = none := by decide

/-- A record. -/
def record : Notice := ⟨.railUp .a, none, none, 0, 0, false⟩

theorem witness_FullQueueFlagsItsNewestRecord :
    ((ready.noticesOf 1).length < 32) ∧
    (∃ older newest, (ready.setNotices 1 (List.replicate 32 record)).noticesOf 1 = older ++ [newest] ∧
      32 ≤ ((ready.setNotices 1 (List.replicate 32 record)).noticesOf 1).length) ∧
    ((ready.setNotices 1 (List.replicate 31 record)).noticesOf 1).length < 32 ∧
    (let s := ready.setPort 1 { ready.port 1 with attention := true }
     (s.port 1).session = .opened ∧ (s.port 1).attention = true) :=
  ⟨by decide, ⟨List.replicate 31 record, record, by decide, by decide⟩, by decide, by decide⟩

theorem witness_NextNoticeTakesTheHead :
    Request.isTaken ⟨1, 1, 0x14, []⟩ ready = true ∧ Request.isTaken ⟨1, 1, 0x14, [0]⟩ ready = true ∧
    ready.noticesOf 1 = [] ∧ Request.isTaken ⟨1, 1, 0x14, []⟩ (ready.setNotices 1 [record]) = true ∧
    (ready.setNotices 1 [record]).noticesOf 1 = record :: [] := by decide

/-! ### Witnesses: the laws -/

theorem busy_queueLaw : QueueLaw busy := by unfold QueueLaw; decide

theorem busy_chargeLaw : ChargeLaw busy := by
  unfold ChargeLaw
  simp only [Rail.forall_iff, Rail.exists_iff]
  decide

theorem busy_forestLaw : ForestLaw busy.config :=
  ⟨fun c => if c = 1 then 2 else 1, fun c => by
    have h : ∀ c, (look busy.config.channels c).parent = if c = 1 then some 0 else none := by decide
    have a : (look busy.config.channels 0).admin ≠ .retired := by decide
    rw [h c]
    by_cases e : c = 1 <;> simp [e, a]⟩

theorem busy_recordLaw : RecordLaw busy.config := by
  refine ⟨by decide, Rail.forall_iff.2 (by decide), fun h l m c a b => ?_⟩
  have v : ∀ h l, (look (look busy.config.views h) l).physical = some l := by decide
  rw [v] at a b
  exact Option.some.inj (a.trans b.symm)

theorem busy_configurationLaw : busy.everyConfiguration ConfigurationLaw :=
  ⟨⟨busy_recordLaw, busy_forestLaw⟩, fun i x e => by (cases i <;> cases e), fun job e => by cases e⟩

theorem busy_claimLaw : ClaimLaw busy := by
  intro c h x e
  have k : ∀ c h, busy.claimOf c h =
      if h = 1 ∧ (c = 0 ∨ c = 1) then some ⟨.active, 3, 7, 0⟩ else none := by decide
  rw [k] at e
  split at e
  · rename_i j
    cases e
    obtain ⟨rfl, rfl | rfl⟩ := j
    · exact ⟨by decide, .inl (by decide), by decide, ⟨0, by decide⟩, by decide, by decide⟩
    · exact ⟨by decide, .inl (by decide), by decide, ⟨1, by decide⟩, by decide, by decide⟩
  · cases e

theorem busy_retryLaw : RetryLaw busy := by
  have h : ∀ c, (busy.ctl c).retryCount =
      if (busy.ctl c).state = .latched then (busy.cfg c).retryLimit + 1 else 0 := by decide
  intro c
  have k := h c
  cases e : (busy.ctl c).state <;> simp_all

theorem busy_demandLaw : DemandLaw busy := by unfold DemandLaw; decide

theorem busy_wantedLaw : WantedLaw busy := by unfold WantedLaw; decide

theorem busy_parentLaw : ParentLaw busy := by
  have h : ∀ c : Chan, (busy.ctl c).state.charged = true → (busy.cfg c).parent = none := by decide
  intro c p k e
  rw [h c k] at e
  cases e

/-- A part at work meets every law, and a step of it has a next state. -/
theorem witness_laws :
    LoadingLaw busy ∧ NoticeLaw busy ∧ LockLaw busy ∧ (BudgetLaw busy ∧ LimitLaw busy) ∧
    busy.everyConfiguration ConfigurationLaw ∧ ClaimLaw busy ∧ AllocationLaw busy ∧ RetryLaw busy ∧
    DemandLaw busy ∧ WantedLaw busy ∧ ParentLaw busy ∧ step busy = .next (after (.stableExpiry 0) { busy with pending := [] }) :=
  ⟨fun h => absurd h (by decide), by unfold NoticeLaw; decide, by unfold LockLaw; decide,
    ⟨Rail.forall_iff.2 (by decide), Rail.forall_iff.2 (by decide)⟩, busy_configurationLaw, busy_claimLaw, ⟨busy_queueLaw, busy_chargeLaw⟩,
    busy_retryLaw, busy_demandLaw, busy_wantedLaw, busy_parentLaw, rfl⟩

/-- While the part loads, the law of R199 says something: it holds of the load about to complete. -/
theorem witness_LoadingLawIsKept : LoadingLaw (loading none) ∧ (loading none).isLoading = true ∧
    step { loading none with pending := [.loadCompletion] } = .next (after .loadCompletion (loading none)) :=
  ⟨fun _ => ⟨rfl, by decide⟩, rfl, rfl⟩

theorem witness_ProfileLawIsKept : ProfileLaw (writing 30) ∧
    step { writing 30 with pending := [.commitCompletion true] } =
      .next (after (.commitCompletion true) (writing 30)) := by
  refine ⟨⟨by decide, by decide, fun i e => ?_, fun i e => ?_, fun job e => ?_⟩, rfl⟩
  · cases e
  · cases e
  · cases e; decide

/-! ### Witnesses: administration and configuration -/

/-- Channel 3 in each state, host 1 holding the lock. -/
theorem witness_HoldTakesTheChannelOut :
    Request.isTaken ⟨1, 1, 0x20, [chanByte 0]⟩ busy = true ∧ busy.lock = some 1 ∧ QueueLaw busy ∧
    (busy.cfg 0).admin = .enabled ∧
    Request.isTaken ⟨1, 1, 0x20, [chanByte 0]⟩ (cfg 0 (fun f => { f with admin := .held }) busy) = true ∧
    ((cfg 0 (fun f => { f with admin := .held }) busy).cfg 0).admin ≠ .enabled :=
  ⟨by decide, by decide, busy_queueLaw, by decide, by decide, by decide⟩

/-- The values as the formulas give them, and the demand items with them. -/
theorem demandLaw_of_values {s : State} (h : ∀ c, (s.ctl c).demand = s.effectiveDemand treeDepth c) :
    DemandLaw { s with demand := tabulate s.demandNow } := fun c =>
  have e : ({ s with demand := tabulate s.demandNow } : State).dem c = s.demandNow c := by
    simp [State.dem]
  ⟨e, by rw [e]; exact h c⟩

/-- Where no channel has a parent, effective demand is own demand. -/
theorem effectiveDemand_flat {s : State} (h : ∀ c, (s.cfg c).parent = none) (n : Nat) (c : Chan) :
    s.effectiveDemand n c = s.ownDemand c := by
  have e : s.children c = [] := by simp [State.children, h]
  cases n <;> simp [State.effectiveDemand, e]

/-- CH0 HELD and OFF with its demand item set, no rail UP. -/
def heldOff : State :=
  let s := ctl 0 (fun k => { k with demand := true })
    (cfg 0 (fun f => { f with admin := .held, policy := .pinned }) (put 0 .off locked))
  { s with demand := tabulate s.demandNow }

theorem heldOff_demandLaw : DemandLaw heldOff := by
  refine demandLaw_of_values fun c => ?_
  rw [effectiveDemand_flat (by decide)]
  revert c; decide

theorem witness_UnholdQueuesAWantedChannel :
    Request.isTaken ⟨1, 1, 0x21, [chanByte 0]⟩ heldOff = true ∧ heldOff.lock = some 1 ∧
    (heldOff.cfg 0).admin = .held ∧ QueueLaw heldOff ∧ (heldOff.ctl 0).state = .off ∧
    (heldOff.ctl 0).demand = true ∧ heldOff.isUp .a = false ∧ heldOff.isUp .b = false ∧
    DemandLaw heldOff ∧
    ((put 0 .latched heldOff).ctl 0).state = .latched ∧ ((put 0 .stopping heldOff).ctl 0).state = .stopping ∧
    (locked.cfg 0).admin ≠ .held :=
  ⟨by decide, by decide, by decide, by unfold QueueLaw; decide, by decide, by decide, by decide, by decide,
    heldOff_demandLaw, by decide, by decide, by decide⟩

theorem witness_RetireTakesTheChannelOutOfUse :
    Request.isTaken ⟨1, 1, 0x22, [chanByte 2]⟩ busy = true ∧ busy.lock = some 1 ∧
    (busy.ctl 0).state = .isOn ∧ (busy.ctl 2).state = .latched ∧ (busy.ctl 3).state = .off ∧
    (∀ k, (busy.cfg k).parent ≠ some 2) ∧ (busy.cfg 2).admin ≠ .retired ∧ QueueLaw busy ∧
    ((put 0 .off busy).ctl 0).state = .off ∧ ((put 0 .off busy).cfg 1).parent = some 0 ∧
    (let s := cfg 2 (fun f => { f with admin := .retired }) (put 2 .retired busy)
     (s.ctl 2).state = .retired ∧ (s.cfg 2).admin = .retired) ∧
    (∃ x, (claimed (put 0 .off ready)).claimOf 0 1 = some x) ∧
    ((claimed (put 0 .off ready)).port 1).session = .opened :=
  ⟨by decide, by decide, by decide, by decide, by decide, by decide, by decide, busy_queueLaw, by decide,
    by decide, by decide, ⟨_, rfl⟩, by decide⟩

/-- CH4 RETIRED, its discharge over or still running, PINNED or not. -/
def outOfUse (discharge : Option Nat) (policy : Policy) : State :=
  ctl 4 (fun k => { k with discharge := discharge })
    (put 4 .retired (cfg 4 (fun f => { f with admin := .retired, policy := policy }) locked))

theorem witness_RestoreReturnsTheChannel :
    (∀ d ∈ [none, some 9], ∀ p ∈ [Policy.any, .pinned],
      Request.isTaken ⟨1, 1, 0x23, [chanByte 4]⟩ (outOfUse d p) = true ∧ (outOfUse d p).lock = some 1 ∧
      ((outOfUse d p).cfg 4).admin = .retired ∧ ((outOfUse d p).ctl 4).state = .retired ∧
      QueueLaw (outOfUse d p) ∧ ((outOfUse d p).dem 4).effective = false ∧
      ((outOfUse d p).ctl 4).demand = false ∧ ((outOfUse d p).ctl 4).discharge = d ∧
      (outOfUse d p).isUp .a = false ∧ (outOfUse d p).isUp .b = false) ∧
    (∀ d p, ForestLaw (outOfUse d p).config) ∧ (locked.cfg 4).admin ≠ .retired :=
  ⟨by unfold QueueLaw; decide,
    fun _ p => forest_of_flat (show ∀ c, (look (outOfUse none p).config.channels c).parent = none by
      cases p <;> decide), by decide⟩

/-- CH2 LATCHED, PINNED, its discharge over, no rail UP. -/
def latchedWanted : State :=
  let s := ctl 2 (fun k => { k with demand := true })
    (cfg 2 (fun f => { f with policy := .pinned }) (put 2 .latched locked))
  { s with demand := tabulate s.demandNow }

theorem latchedWanted_demandLaw : DemandLaw latchedWanted := by
  refine demandLaw_of_values fun c => ?_
  rw [effectiveDemand_flat (by decide)]
  revert c; decide

/-- In `busy` CH2 has no demand. -/
theorem witness_ClearFaultResetsTheCount :
    Request.isTaken ⟨1, 1, 0x15, [chanByte 2]⟩ busy = true ∧ (busy.viewEntry 1 2).physical = some 2 ∧
    busy.claimOf 2 1 = none ∧ busy.lock = some 1 ∧ (busy.claimOf 0 1).isSome = true ∧
    (ready.claimOf 2 1 = none ∧ ready.lock ≠ some 1 ∧
      Request.isTaken ⟨1, 1, 0x15, [chanByte 2]⟩ ready = true) ∧
    (busy.ctl 0).state ≠ .latched ∧ (busy.ctl 0).state ≠ .retryWait ∧ (busy.ctl 2).state = .latched ∧
    ((put 0 .retryWait busy).ctl 0).state = .retryWait ∧ QueueLaw busy ∧
    (busy.ctl 2).discharge = none ∧ (busy.cfg 2).admin = .enabled ∧
    ((ctl 2 (fun k => { k with discharge := some 1 }) busy).ctl 2).discharge = some 1 ∧
    ((cfg 2 (fun f => { f with admin := .held }) busy).cfg 2).admin = .held ∧
    (busy.ctl 2).demand = false ∧ DemandLaw busy ∧
    (Request.isTaken ⟨1, 1, 0x15, [chanByte 2]⟩ latchedWanted = true ∧ latchedWanted.lock = some 1 ∧
      (latchedWanted.viewEntry 1 2).physical = some 2 ∧ (latchedWanted.ctl 2).state = .latched ∧
      (latchedWanted.ctl 2).discharge = none ∧ (latchedWanted.cfg 2).admin = .enabled ∧
      (latchedWanted.ctl 2).demand = true ∧ latchedWanted.isUp .a = false ∧
      latchedWanted.isUp .b = false) ∧ QueueLaw latchedWanted ∧ DemandLaw latchedWanted :=
  ⟨by decide, by decide, by decide, by decide, by decide, by decide, by decide, by decide, by decide, by decide,
    busy_queueLaw, by decide, by decide, by decide, by decide, by decide, busy_demandLaw, by decide,
    by unfold QueueLaw; decide, latchedWanted_demandLaw⟩

/-- Nothing stands above CH0, which stands above CH1; nothing stands below CH3. -/
theorem busy_above : (∀ n, busy.above (n + 1) 0 = none) ∧ (∀ n, busy.above (n + 2) 1 = none) ∧
    ∀ m k, busy.above (m + 1) k ≠ some 3 := by
  have h0 : (busy.cfg 0).parent = none := by decide
  have h1 : (busy.cfg 1).parent = some 0 := by decide
  have hk : ∀ k, k ≠ 1 → (busy.cfg k).parent = none := by decide
  have a0 : ∀ n, busy.above (n + 1) 0 = none := fun n => by simp [State.above, h0]
  refine ⟨a0, fun n => by rw [State.above, h1]; exact a0 n, fun m k => ?_⟩
  rw [State.above]
  by_cases e : k = 1
  · subst e; rw [h1]
    cases m with
    | zero => decide
    | succ m => simp [a0 m]
  · simp [hk k e]

/-- CH1 as a new parent of CH3, which is neither below it nor too deep. -/
theorem busy_shallow : (∀ n, busy.above n 1 ≠ some 3) ∧
    ∀ n m k, busy.above n 1 ≠ none → busy.above m k = some 3 → (n + 1) + (m + 1) ≤ 4 := by
  obtain ⟨-, a1, a3⟩ := busy_above
  refine ⟨fun n => ?_, fun n m k hn hm => ?_⟩
  · match n with
    | 0 => decide
    | 1 => decide
    | n + 2 => simp [a1 n]
  · match n, m with
    | n + 2, _ => exact absurd (a1 n) hn
    | _, m + 1 => exact absurd hm (a3 m k)
    | 0, 0 => decide
    | 1, 0 => decide

/-- CH4 under CH3 under CH2 under CH1: as deep as a tree may be. -/
def deep : State :=
  cfg 4 (fun f => { f with parent := some 3 }) (cfg 3 (fun f => { f with parent := some 2 })
    (cfg 2 (fun f => { f with parent := some 1 }) (put 9 .off (put 1 .off locked))))

theorem deep_forestLaw : ForestLaw deep.config :=
  ⟨fun c => if c = 2 then 2 else if c = 3 then 3 else if c = 4 then 4 else 1, fun c => by
    have h : ∀ c : Chan, (look deep.config.channels c).parent =
        if c = 2 then some 1 else if c = 3 then some 2 else if c = 4 then some 3 else none := by decide
    have r : ∀ c : Chan, (look deep.config.channels c).admin ≠ .retired := by decide
    rw [h c]
    by_cases h2 : c = 2
    · subst h2; exact ⟨by decide, by decide, r _⟩
    by_cases h3 : c = 3
    · subst h3; exact ⟨by decide, by decide, r _⟩
    by_cases h4 : c = 4
    · subst h4; exact ⟨by decide, by decide, r _⟩
    simp [h2, h3, h4]⟩

theorem witness_ChannelRecordsAreWritten :
    (Request.isTaken ⟨1, 1, 0x30, [chanByte 3, 200, 200, 15, feedCode .bThenA, 1, 1, 255, 50]⟩ busy = true ∧
      busy.lock = some 1 ∧ (200 : Byte).toNat ≤ (200 : Byte).toNat ∧ (1 : Byte).toNat ≤ (1 : Byte).toNat ∧
      (199 : Byte).toNat < (200 : Byte).toNat ∧ (1 : Byte).toNat < (2 : Byte).toNat ∧
      Request.isTaken ⟨1, 1, 0x30, [chanByte 3, 200, 199, 15, feedCode .aOnly, 1, 1, 255, 50]⟩ busy = true ∧
      Request.isTaken ⟨1, 1, 0x30, [chanByte 3, 1, 1, 0, feedCode .aOnly, 1, 2, 0, 1]⟩ busy = true ∧
      (busy.ctl 3).state = .off ∧ (busy.ctl 0).state = .isOn ∧ ready.queue = []) ∧
    Request.isTaken ⟨1, 1, 0x31, [chanByte 3, policyCode .line, 15, hostByte 3, 7, 0xFF]⟩ busy = true ∧
      Request.isTaken ⟨1, 1, 0x31, [chanByte 3, policyCode .any, 1, hostByte 0, 0, chanByte 3]⟩ busy = true ∧
      Request.isTaken ⟨1, 1, 0x31, [chanByte 3, policyCode .any, 1, hostByte 0, 0, chanByte 1]⟩ busy = true ∧
      (busy.cfg 3).parent = none ∧ (busy.cfg 1).admin ≠ .retired ∧
      Request.isTaken ⟨1, 1, 0x31, [chanByte 0, policyCode .any, 1, hostByte 0, 0, 0xFF]⟩ busy = true ∧
      ((cfg 5 (fun f => { f with admin := .retired }) busy).cfg 5).admin = .retired ∧
      (Request.isTaken ⟨1, 1, 0x31, [chanByte 1, policyCode .any, 1, hostByte 0, 0, chanByte 4]⟩ deep = true ∧
        deep.lock = some 1 ∧ (deep.ctl 1).state = .off ∧ (deep.cfg 1).parent ≠ some 4 ∧
        deep.above 3 4 = some 1) ∧
      Request.isTaken ⟨1, 1, 0x31, [chanByte 9, policyCode .any, 1, hostByte 0, 0, chanByte 4]⟩ deep = true ∧
        (deep.ctl 9).state = .off ∧ (deep.cfg 9).parent ≠ some 4 ∧ deep.above 3 4 ≠ none ∧
        deep.above 0 9 = some 9 ∧ 4 < (3 + 1) + (0 + 1) := by decide

theorem witness_RetryLimitReachesALatchedChannel :
    Request.isTaken ⟨1, 1, 0x32, [chanByte 2, 10, 7, 1, 255, 1, 1]⟩ busy = true ∧ busy.lock = some 1 ∧
    (10 : Byte) = faultSourceCode .forced ∧ (busy.ctl 2).state = .latched ∧ (busy.ctl 3).state = .off ∧
    Request.isTaken ⟨1, 1, 0x32, [chanByte 0, 9, 0, 255, 0, 255, 0]⟩ busy = true ∧
    (9 : Byte) = faultSourceCode (.senseXf 3) ∧ (busy.ctl 0).state = .isOn := by decide

theorem witness_ViewEntriesAreWritten :
    Request.isTaken ⟨1, 1, 0x34, [hostByte 1, chanByte 0, chanByte 15, 0]⟩ busy = true ∧
    Request.isTaken ⟨1, 1, 0x34, [hostByte 1, chanByte 9, chanByte 15, 1]⟩ busy = true ∧
    Request.isTaken ⟨1, 1, 0x34, [hostByte 3, chanByte 15, 0xFF, 1]⟩ busy = true ∧
    busy.lock = some 1 ∧ (busy.viewEntry 1 0).physical = some 0 ∧ (busy.claimOf 0 1).isSome = true ∧
    (busy.viewEntry 1 9).physical = some 9 ∧ busy.claimOf 9 1 = none ∧
    (busy.viewEntry 1 15).physical = some 15 := by decide

theorem witness_SetRailKeepsTheAllocation :
    Request.isTaken ⟨1, 1, 0x36, [Rail.code .a, 0, 9, 15, 1]⟩ busy = true ∧
    Request.isTaken ⟨1, 1, 0x36, [Rail.code .a, 3, 232, 0, 255]⟩ busy = true ∧
    busy.lock = some 1 ∧ ((0 : Byte) ++ (9 : Byte) : BitVec 16).toNat < (busy.account .a).allocated ∧
    ((3 : Byte) ++ (232 : Byte) : BitVec 16).toNat = 1000 ∧ (busy.account .a).allocated ≤ 10 ∧
    ((0 : Byte) ++ (10 : Byte) : BitVec 16).toNat = 10 ∧ ready.queue = [] := by decide

/-! ### Witnesses: Profile Memory, sensing, timers, admission -/

theorem witness_CommitErasesTheOtherSlot :
    Request.isTaken ⟨1, 1, 0x40, []⟩ locked = true ∧ Request.isTaken ⟨1, 1, 0x40, [0]⟩ locked = true ∧
    locked.lock = some 1 ∧ locked.pm.store = .idle ∧ locked.pm.currentGeneration = 0 ∧
    (∃ job, ({ locked with pm := (writing 0).pm } : State).pm.store = .writing job) ∧
    Request.isTaken ⟨1, 1, 0x40, []⟩ { locked with pm := (writing 0).pm } = true ∧
    (let s : State := { locked with
        pm := { locked.pm with currentGeneration := 0xFFFFFFFE#32, currentSlot := some .slot0 } }
     Request.isTaken ⟨1, 1, 0x40, []⟩ s = true ∧ s.pm.currentGeneration = 0xFFFFFFFE#32) ∧
    (let s : State := { locked with
        pm := { locked.pm with currentGeneration := 0xFFFFFFFD#32, currentSlot := some .slot0 } }
     Request.isTaken ⟨1, 1, 0x40, []⟩ s = true ∧ s.pm.currentGeneration ≠ 0xFFFFFFFE#32 ∧
      s.pm.currentGeneration ≠ 0 ∧ s.pm.currentSlot = some .slot0 ∧ SlotId.slot1 ≠ .slot0) :=
  ⟨by decide, by decide, by decide, by decide, by decide, ⟨_, rfl⟩, by decide, by decide, by decide⟩

theorem witness_CommitCompletesOrFails :
    (writing 30).pm.store = .writing ⟨.slot0, 1, awake.config, 1, 30⟩ ∧ 30 ≤ 30 := ⟨rfl, Nat.le_refl _⟩

/-- A sample that brings no event. -/
theorem witness_SampleIsKept :
    let s := railUp ready
    s.isLoading = false ∧ (s.rail .a).good = (sample 0 .between).railA ∧
    (s.rail .b).good = (sample 0 .between).railB ∧
    (sample 0 .between).xf = s.xf ∧
    ∀ c, ((s.keepSample (sample 0 .between)).sen c).powerGood = (s.sen c).powerGood := by decide

/-- Rail A with this loss qualification. -/
def lossAfter (n : Nat) (s : State) : State :=
  { s with config := { s.config with rails := ⟨⟨15, n, 10⟩, RailConfig.default⟩ } }

/-- A sample that brings an event; one that finds XF2 high, and one that finds it low again; CH0 in SOFTSTART with power-good, in ON, and CH1 in neither; the source's
line and another; a rail monitor in each state. -/
theorem witness_SenseEventsReachTheController :
    let s := put 0 .softstart (railUp ready)
    let t := s.setSen 0 { s.sen 0 with powerGood := true }
    let u := cfg 0 (fun f => { f with faultSource := .xf 2 }) busy
    (s.isLoading = false ∧ s.sampleEvents (sample 0 .atOrAboveRise) = [.powerGoodArrival 0]) ∧
    u.sampleEvents { sample 0 .between with xf := Sys2Proof.put u.xf 2 true } = [.xfLevel 2 true, .xfAssertion 2 0] ∧
    ({ u with xf := Sys2Proof.put u.xf 2 true } : State).sampleEvents (sample 0 .between) = [.xfLevel 2 false] ∧
    (t.ctl 0).state = .softstart ∧ (t.sen 0).powerGood = true ∧
    (busy.ctl 0).state = .isOn ∧ (busy.ctl 1).state ≠ .softstart ∧ (busy.ctl 1).state ≠ .isOn ∧
    (u.cfg 0).faultSource = .xf 2 ∧ (u.ctl 0).state = .isOn ∧ (u.cfg 0).faultSource ≠ .xf 3 ∧
    (u.cfg 0).faultSource ≠ .senseXf 3 ∧
    (∀ x ∈ [RailState.down, .rising, .falling], ((railAt x ready).rail .a).state = x) ∧
    (busy.rail .a).state = .up ∧ (busy.config.rails.of .a).lossQual ≠ 0 ∧
    ((lossAfter 0 busy).rail .a).state = .up ∧ ((lossAfter 0 busy).config.rails.of .a).lossQual = 0 := by decide

/-- A passed trip of CH0 in ON, in RAMP, and in BLANKING; a soft-start timer that has run out. -/
theorem witness_TripsAndTimeoutsAreFaults :
    let trip (s : State) : State := s.setSen 0 { s.sen 0 with tripPassed := true }
    let inRamp := ctl 0 (fun k => { k with sub := .ramp }) (put 0 .softstart ready)
    ready.isLoading = false ∧ ((trip busy).sen 0).tripPassed = true ∧ ((trip busy).ctl 0).state = .isOn ∧
    ((trip busy).cfg 0).faultSource = .sense ∧
    ((trip inRamp).ctl 0).state = .softstart ∧ ((trip inRamp).ctl 0).sub = .ramp ∧
    ((trip (cfg 0 (fun f => { f with faultSource := .noSource }) busy)).cfg 0).faultSource = .noSource ∧
    ((trip (put 0 .softstart ready)).ctl 0).state ≠ .isOn ∧ ((trip (put 0 .softstart ready)).ctl 0).sub ≠ .ramp ∧
    ((ctl 0 (fun k => { k with softStart := some 0 }) inRamp).ctl 0).softStart = some 0 := by decide

theorem witness_EnableEventChangesTheLevel : (ready.setLine 3 ⟨true, 4⟩).isLoading = false ∧
    4 ≤ ((ready.setLine 3 ⟨true, 4⟩).line 3).run := by decide

theorem witness_DetachNotifiesOrReleases :
    let s := busy.setSen 0 { busy.sen 0 with detachPassed := true }
    s.isLoading = false ∧ (s.sen 0).detachPassed = true ∧ (s.ctl 0).state = .isOn ∧
    (s.cfg 0).detachAction = .notify ∧
    ((cfg 0 (fun f => { f with detachAction := .release }) s).cfg 0).detachAction = .release ∧
    ((put 0 .stopping s).ctl 0).state ≠ .isOn ∧ (s.dem 0).effective = true ∧ s.receives 1 0 = true := by decide

theorem witness_ChannelTimersExpire :
    let run (x : ChannelState) (f : Controller → Controller) := ctl 0 f (put 0 x ready)
    ready.isLoading = false ∧
    ((run .softstart fun k => { k with blanking := some 0 }).ctl 0).blanking = some 0 ∧
    ((run .isOn fun k => { k with stable := some 0 }).ctl 0).stable = some 0 ∧
    (∀ x ∈ [ChannelState.stopping, .retryWait, .latched, .retired],
      ((run x fun k => { k with discharge := some 0 }).ctl 0).state = x ∧
      ((run x fun k => { k with discharge := some 0 }).ctl 0).discharge = some 0 ∧
      ((run x fun k => { k with discharge := some 0 }).ctl 0).backoff = none) ∧
    ((run .retryWait fun k => { k with backoff := some 0 }).ctl 0).backoff = some 0 ∧
    ((run .retryWait fun k => { k with backoff := some 0 }).ctl 0).discharge = none ∧
    ((run .retryWait fun k => { k with backoff := some 0, discharge := some 1 }).ctl 0).discharge ≠ none := by
  decide

theorem witness_DeadTimeEndsInSoftStart :
    let s := ctl 0 (fun k => { k with deadTime := some 0 }) (put 0 .switchover ready)
    s.isLoading = false ∧ (s.ctl 0).deadTime = some 0 ∧ (s.ctl 0).state = .switchover ∧
    s.entryFault 0 = none ∧ ((cfg 0 (fun f => { f with faultSource := .forced }) s).cfg 0).faultSource = .forced ∧
    (let t : State := { cfg 0 (fun f => { f with faultSource := .xf 2 }) s with xf := Vector.replicate 4 true }
     (t.cfg 0).faultSource = .xf 2 ∧ look t.xf 2 = true) := by decide

theorem witness_RestoreExpiryBringsTheRailUp : (railAt .rising ready).isLoading = false ∧
    ((railAt .rising ready).rail .a).restoreTimer = some 0 ∧
    ((railAt .rising ready).rail .a).state = .rising := by decide

/-- CH0 ON on rail A, which is DOWN already as at every turn of a loss expiry; it may move to rail B, where 10 AU are free. -/
def movable : State :=
  ((railAt .down (cfg 0 (fun f => { f with feed := .aThenB }) busy)).setRail .b
    ⟨true, .up, none, none⟩).setAccount .b ⟨10, []⟩

/-- Rail A of a state put back to FALLING. -/
def refallen (s : State) : State := s.setRail .a { s.rail .a with state := .falling }

theorem movable_allocationLaw : AllocationLaw (refallen movable) := by
  refine ⟨by unfold QueueLaw; decide, ?_⟩
  unfold ChargeLaw
  simp only [Rail.forall_iff, Rail.exists_iff]
  decide

theorem lost_allocationLaw : AllocationLaw (refallen (railAt .down busy)) := by
  refine ⟨by unfold QueueLaw; decide, ?_⟩
  unfold ChargeLaw
  simp only [Rail.forall_iff, Rail.exists_iff]
  decide

theorem movable_forestLaw : ForestLaw movable.config :=
  ⟨fun c => if c = 1 then 2 else 1, fun c => by
    have h : ∀ c : Chan, (look movable.config.channels c).parent = if c = 1 then some 0 else none := by decide
    rw [h c]
    by_cases e : c = 1
    · subst e; exact ⟨by decide, by decide, by decide⟩
    · simp [e]⟩

/-- With rail A DOWN, CH0 moves in `movable`, stops in `busy`, which feeds it by rail A only, and is passed
over by rail B. -/
theorem witness_LossExpiryTakesEveryChargeOff : (railAt .falling busy).isLoading = false ∧
    ((railAt .falling busy).rail .a).lossTimer = some 0 ∧
    ((railAt .falling busy).rail .a).state = .falling ∧
    (movable.rail .a).state = .down ∧ (⟨0, 10, 0⟩ : Charge) ∈ (movable.account .a).charges ∧
    AllocationLaw (refallen movable) ∧ ForestLaw movable.config ∧
    (movable.rail .b).state = .up ∧ (movable.cfg 0).feed = .aThenB ∧ movable.victims .b 3 10 = some [] ∧
    ((railAt .down busy).rail .a).state = .down ∧
    (⟨0, 10, 0⟩ : Charge) ∈ ((railAt .down busy).account .a).charges ∧
    AllocationLaw (refallen (railAt .down busy)) ∧ ForestLaw (railAt .down busy).config ∧
    ((railAt .down busy).rail .b).state ≠ .up ∧ (⟨0, 10, 0⟩ : Charge) ∉ (busy.account .b).charges :=
  ⟨by decide, by decide, by decide, by decide, by decide, movable_allocationLaw, movable_forestLaw,
    by decide, by decide, by decide, by decide, by decide, lost_allocationLaw, busy_forestLaw,
    by decide, by decide⟩

/-- CH1 grantable, and with each fault of the entry check; an examination that leaves CH1 waiting. -/
theorem witness_GrantChargesAndStarts : busy.entryFault 1 = none ∧ (busy.ctl 1).state = .queued ∧
    ((cfg 1 (fun f => { f with faultSource := .forced }) busy).cfg 1).faultSource = .forced ∧
    (let s : State := { cfg 1 (fun f => { f with faultSource := .senseXf 3 }) busy with
       xf := Vector.replicate 4 true }
     (s.cfg 1).faultSource = .senseXf 3 ∧ look s.xf 3 = true ∧ (s.ctl 1).state = .queued) ∧
    busy.budgetView ≠ ({ busy with queue := [] } : State).budgetView ∧
    busy.budgetView = ({ busy with draws := 1 } : State).budgetView ∧
    State.settle { busy with queue := [] } busy = busy ∧ IsCandidate busy .a ⟨1, 3, 0⟩ := by
  have h : (busy.cfg 1).parent = some 0 := by decide
  have f : (busy.cfg 1).feed = .aOnly := by decide
  refine ⟨by decide, by decide, by decide, by decide, by decide, by decide, by decide,
    [], [], by decide, ⟨fun p e => ?_, by decide, ?_⟩, by simp⟩
  · rw [h] at e; cases e; decide
  · show match (busy.cfg 1).feed with
      | .aOnly => Rail.a = .a
      | .bOnly => Rail.a = .b
      | .aThenB => Rail.a = .a ∨ (busy.rail .a).state ≠ .up
      | .bThenA => Rail.a = .b ∨ (busy.rail .b).state ≠ .up
    rw [f]

/-- With CH1 not yet active CH0 may be shed for priority 4: 5 AU free and 10 of CH0 reach 15, not 16. -/
theorem witness_VictimsAreTheFirstThatSuffice :
    busy.victims .a 4 15 = some [⟨0, 10, 0⟩] ∧ busy.victims .a 4 5 = some [] ∧
    busy.victims .a 4 16 = none ∧ busy.victims .a 3 6 = none := by decide

theorem witness_StopReturnsTheCharge : (busy.ctl 0).state.charged = true ∧
    ((put 3 .softstart ready).ctl 3).state.charged = true ∧
    ((put 3 .switchover ready).ctl 3).state.charged = true ∧ busy.isLoading = false := by decide

end Sys2Proof.Tests
end

section
/-! PROOFS. Frames that only read (R184, R186), and GET_CHANNEL_CONFIG (R142). -/

namespace Sys2Proof.Machine

/-! ### A frame whose command changes nothing -/

@[simp] theorem State.setPort_setPort (s : State) (h : HostId) (p p' : Port) :
    (s.setPort h p).setPort h p' = s.setPort h p' := by
  simp [State.setPort]

@[simp] theorem State.setPort_port_self (s : State) (h : HostId) : s.setPort h (s.port h) = s := by
  simp [State.setPort, State.port]

/-- An answer only makes the port give the response's bytes. -/
theorem answer_eq_gives (s : State) (h : HostId) (seq : Byte) (r : Reply) :
    s.answer h seq r =
      s.setPort h ((s.port h).gives (responseBytes r.result.code seq r.data)) := rfl

/-- An executed frame is remembered by its port alone; CLOSE is left out, whose OK is not stored (R186). -/
theorem store_eq_remembers {q : Request} (hcmd : q.cmd ≠ codeClose) (s : State) (r : Reply) :
    s.store q.port q.seq q.cmd q.operands r =
      s.setPort q.port
        ((s.port q.port).remembers q (responseBytes r.result.code q.seq r.data)) := by
  unfold State.store Port.remembers
  by_cases hseq : q.seq = 0
  · rw [if_pos (by simp [hseq]), if_pos hseq, State.setPort_port_self]
  · rw [if_neg (by simpa [hcmd] using hseq), if_neg hseq]
    rfl

/-- Stored and answered on the state with the lease renewed, an executed frame is replied to. -/
theorem answer_store_renewLease {q : Request} (hcmd : q.cmd ≠ codeClose) (s : State) (r : Reply) :
    ((s.renewLease q.port).store q.port q.seq q.cmd q.operands r).answer q.port q.seq r =
      s.replied q r.result.code r.data := by
  simp [renewLease_eq, store_eq_remembers hcmd, answer_eq_gives, State.replied]

/-- A frame taken by a body that hands its state back is replied to, and nothing else happens. -/
theorem exec_of_body_reads {i : Instr} {q : Request} {s : State} {r : Reply}
    (hi : requestOf i = some q) (ht : q.isTaken s = true) (hcmd : q.cmd ≠ codeClose)
    (hbody : commandBody q.cmd q.port q.operands (s.renewLease q.port) =
      (s.renewLease q.port, r)) :
    exec i s = .next (s.replied q r.result.code r.data) := by
  rw [exec_request hi, takeFrame_taken ht, hbody]
  exact congrArg _ (answer_store_renewLease hcmd s r)

@[simp] theorem renewLease_cfg (s : State) (h : HostId) (c : Chan) :
    (s.renewLease h).cfg c = s.cfg c := by
  rw [renewLease_eq]; rfl

/-! ### Channel operands -/

theorem chanOperand_eq_none {b : Byte} (hb : 15 < b.toNat) : chanOperand b = none :=
  dif_neg (by omega)

@[simp] theorem chanByte_toNat (c : Chan) : (chanByte c).toNat = c.val :=
  Nat.mod_eq_of_lt (by omega)

@[simp] theorem chanOperand_chanByte (c : Chan) : chanOperand (chanByte c) = some c := by
  simp [chanOperand]

/-! ### GET_CHANNEL_CONFIG -/

theorem getChannelConfigBody_badLength {ops : List Byte} (hlen : ops.length ≠ 1) (h : HostId)
    (s : State) : getChannelConfigBody h ops s = (s, refuse .badLength) := by
  match ops with
  | [] => rfl
  | [_] => exact absurd rfl hlen
  | _ :: _ :: _ => rfl

theorem getChannelConfigBody_badValue {b : Byte} (hb : 15 < b.toNat) (h : HostId) (s : State) :
    getChannelConfigBody h [b] s = (s, refuse .badValue) := by
  simp [getChannelConfigBody, chanOperand_eq_none hb]

theorem getChannelConfigBody_chanByte (c : Chan) (h : HostId) (s : State) :
    getChannelConfigBody h [chanByte c] s = (s, okReply (channelConfigBytes (s.cfg c))) := by
  simp [getChannelConfigBody]

/-- Settles O15: in each of the three operand cases the body hands its state back with the reply named, and
`channelConfigBytes` lists the record's fields in the statement's order. -/
theorem getChannelConfigReadsTheRecord : Obligations.GetChannelConfigReadsTheRecord := by
  intro h seq ops s ht
  have answers {r : Reply} (hbody : getChannelConfigBody h ops (s.renewLease h) =
      (s.renewLease h, r)) : exec (.getChannelConfig h seq ops) s =
        .next (s.replied ⟨h, seq, 0x33, ops⟩ r.result.code r.data) :=
    exec_of_body_reads rfl ht (by decide : (0x33 : Byte) ≠ codeClose) hbody
  refine ⟨fun hlen => ?badLength, fun b hops hb => ?badValue, fun c hops => ?ok⟩
  case badLength => exact answers (getChannelConfigBody_badLength hlen h _)
  case badValue =>
    subst hops
    exact answers (getChannelConfigBody_badValue hb h _)
  case ok =>
    subst hops
    have hread := getChannelConfigBody_chanByte c h (s.renewLease h)
    rw [renewLease_cfg] at hread
    exact answers hread

end Sys2Proof.Machine
end

section
/-! PROOFS. A frame that ends at its LEN byte (R183), the session check (R149, R184), and IDENTIFY (R190). -/

namespace Sys2Proof.Machine

/-! ### A frame that ends at its LEN byte -/

/-- In REQUEST a LEN byte out of range ends the frame, whatever the session state is. -/
theorem takeLenByte_ends {s : State} {h : HostId} {len : Byte}
    (hreq : (s.port h).receiver = .request) (hlen : 12 < len.toNat) (seq : Byte) :
    s.takeLenByte h seq len =
      s.answer h seq (refuse (if s.isLoading then .starting else .frameError)) := by
  simp [State.takeLenByte, hreq, hlen]

theorem takeLenByte_ignored {s : State} {h : HostId} (hreq : (s.port h).receiver ≠ .request)
    (seq len : Byte) : s.takeLenByte h seq len = s := by
  simp [State.takeLenByte, hreq]

/-- Outside REQUEST a port takes no frame (R180). -/
theorem exec_request_ignored {i : Instr} {q : Request} {s : State} (hi : requestOf i = some q)
    (hreq : (s.port q.port).receiver ≠ .request) : exec i s = .next s := by
  rw [exec_request hi, takeFrame_ignored hreq]

theorem exec_frameError (h : HostId) (seq cmd len : Byte) (s : State) :
    exec (.frameError h seq cmd len) s = .next (s.takeLenByte h seq len) := rfl

/-- A port that has answered is out of REQUEST until its transaction ends. -/
theorem answer_receiver_ne_request (s : State) (h : HostId) (seq : Byte) (r : Reply) :
    ((s.answer h seq r).port h).receiver ≠ .request := by
  simp [answer_eq_gives, Port.gives]

/-- The answer to a LEN byte out of range: STARTING or FRAME_ERROR, the SEQ and an RLEN of 0. -/
theorem responseBytes_lenByte (loading : Bool) (seq : Byte) :
    responseBytes (if loading then Result.starting else .frameError).code seq [] =
      [if loading then 0x03 else 0x04, seq, 0] := by
  cases loading <;> rfl

/-- Settles O7: `takeLenByte` answers on the port alone, and the port it leaves is out of REQUEST, where
every later frame is ignored. -/
theorem frameErrorEndsTheFrameAtLen : Obligations.FrameErrorEndsTheFrameAtLen := by
  intro h seq cmd len s hreq hlen
  have hexec : exec (.frameError h seq cmd len) s =
      .next (s.answer h seq (refuse (if s.isLoading then .starting else .frameError))) := by
    rw [exec_frameError, takeLenByte_ends hreq hlen]
  refine ⟨_, hexec, ?state, ?frames, ?lenBytes⟩
  case state =>
    rw [answer_eq_gives, ← responseBytes_lenByte]
    rfl
  case frames =>
    intro i q hi hq
    subst hq
    exact exec_request_ignored hi (answer_receiver_ne_request _ _ _ _)
  case lenBytes =>
    intro seq' cmd' len'
    rw [exec_frameError, takeLenByte_ignored (answer_receiver_ne_request _ _ _ _)]

/-! ### The session check on a new frame -/

/-- A new frame whose command the session admits is replied to, where its body hands the state back. -/
theorem exec_of_admitted_body_reads {i : Instr} {q : Request} {s : State} {r : Reply}
    (hi : requestOf i = some q) (hnew : q.isNew s = true)
    (hadmits : (s.port q.port).session.admits q.cmd = true) (hcmd : q.cmd ≠ codeClose)
    (hbody : commandBody q.cmd q.port q.operands (s.renewLease q.port) =
      (s.renewLease q.port, r)) :
    exec i s = .next (s.replied q r.result.code r.data) := by
  rw [exec_request hi, takeFrame_new hnew, State.execute, if_pos hadmits, hbody]
  exact congrArg _ (answer_store_renewLease hcmd s r)

/-- A new frame whose command the session does not admit is answered NO_SESSION by the port alone. -/
theorem exec_of_not_admitted {i : Instr} {q : Request} {s : State}
    (hi : requestOf i = some q) (hnew : q.isNew s = true)
    (hadmits : (s.port q.port).session.admits q.cmd = false) :
    exec i s = .next (s.turnedAway q 0x05) := by
  rw [exec_request hi, takeFrame_new hnew, State.execute, if_neg (by simp [hadmits])]
  rfl

theorem admits_identify (x : Session) : x.admits codeIdentify = true := by
  cases x <;> rfl

/-- CLOSED and LAPSED admit IDENTIFY and OPEN alone (R149). -/
theorem admits_eq_false {x : Session} {cmd : Byte} (hx : x ≠ .opened) (hid : cmd ≠ codeIdentify)
    (hop : cmd ≠ codeOpen) : x.admits cmd = false := by
  cases x with
  | opened => exact absurd rfl hx
  | closed => simp [Session.admits, hid, hop]
  | lapsed => simp [Session.admits, hid, hop]

/-- A frame that is turned away is not stored. -/
theorem turnedAway_replay (s : State) (q : Request) (code : Byte) :
    ((s.turnedAway q code).port q.port).replay = (s.port q.port).replay := by
  simp [State.turnedAway, Port.gives]

/-! ### IDENTIFY -/

/-- Whatever the free value is, one more than it is a byte other than 0. -/
theorem byteOf_succ_ne_zero (n : Fin 255) : byteOf (n.val + 1) ≠ 0 := by
  have hn : n.val < 255 := n.isLt
  intro hzero
  have hnat : (byteOf (n.val + 1)).toNat = 0 := congrArg BitVec.toNat hzero
  simp only [byteOf, BitVec.toNat_ofNat] at hnat
  omega

theorem revision_ne_zero : revision ≠ 0 := byteOf_succ_ne_zero _

theorem identifyBody_nil (h : HostId) (s : State) :
    identifyBody h [] s = (s, okReply [0x16, 0x04, revision, hostByte h, 16, 4]) := rfl

theorem identifyBody_badLength {ops : List Byte} (hops : ops ≠ []) (h : HostId) (s : State) :
    identifyBody h ops s = (s, refuse .badLength) := by
  cases ops with
  | nil => exact absurd rfl hops
  | cons b ops => rfl

/-- Settles O12: every session state admits IDENTIFY, whose body hands the state back; CLOSED and LAPSED
turn every other command but OPEN away unstored. -/
theorem identifyNamesThePart : Obligations.IdentifyNamesThePart := by
  intro h seq ops s hnew
  have answers {r : Reply} (hbody : identifyBody h ops (s.renewLease h) = (s.renewLease h, r)) :
      exec (.identify h seq ops) s = .next (s.replied ⟨h, seq, 0x01, ops⟩ r.result.code r.data) :=
    exec_of_admitted_body_reads rfl hnew (admits_identify _)
      (by decide : (0x01 : Byte) ≠ codeClose) hbody
  refine ⟨fun hops => ?ok, fun hops => ?badLength,
    fun hsession i q t hi hq hqnew hid hop hexec => ?unstored⟩
  case ok =>
    subst hops
    exact ⟨revision, revision_ne_zero, answers (identifyBody_nil h _)⟩
  case badLength => exact answers (identifyBody_badLength hops h _)
  case unstored =>
    subst hq
    rw [exec_of_not_admitted hi hqnew (admits_eq_false hsession hid hop)] at hexec
    cases hexec
    exact turnedAway_replay s q 0x05

end Sys2Proof.Machine
end

section
/-! PROOFS. Everything a command can do, said once: what a body does to the state, and what a row of the table
does. The laws that every step keeps are derived from these two inversions. -/

namespace Sys2Proof.Machine

/-! ### What the body of a command does -/

/-- What the body of a command of host `h` can do to the state, with the checks it has then passed. Only
`nothing` and `opened` come about outside an OPEN session (R149). -/
inductive Served (h : HostId) (s : State) : State → Prop where
  | nothing : Served h s s
  | opened (period : Nat) (mode : OrphanMode) (attention : Bool) :
      Served h s (s.takeOpen h period mode attention).1
  | closed : (s.port h).session = .opened →
      Served h s (State.settle s ((s.endSession h .closed).dropSilently fun _ g => g = h))
  | locked : (s.port h).session = .opened → s.lock = none → (s.port h).leasePeriod ≠ 0 →
      Served h s { s with lock := some h }
  | unlocked : Served h s { s with lock := none }
  | orphansDropped (g : HostId) : (s.port g).session = .lapsed →
      Served h s (State.settle s (s.dropSilently fun c k => k = g && s.isOrphan c k))
  | claimed (l c : Chan) (priority : Nat) (tag : BitVec 16) : (s.port h).session = .opened →
      (s.viewEntry h l).physical = some c → (s.cfg c).admin ≠ .retired →
      (s.cfg c).policy = .any ∨ (s.cfg c).policy = .all → ChannelConfig.admits (s.cfg c) h = true →
      priority ≤ 7 → Served h s (s.takeClaim h c priority tag)
  | released (c : Chan) : Served h s (s.takeRelease h c)
  | noticeTaken (n : Notice) (rest : List Notice) : s.noticesOf h = n :: rest →
      Served h s (s.setNotices h rest)
  | latchCleared (c : Chan) : (s.ctl c).state = .latched → Served h s (s.clearLatched c)
  | countCleared (c : Chan) : (s.ctl c).state = .retryWait →
      Served h s (s.setCtl c { s.ctl c with retryCount := 0 })
  | held (c : Chan) : (s.cfg c).admin = .enabled → Served h s (s.takeHold c)
  | unheld (c : Chan) : (s.cfg c).admin = .held → Served h s (s.takeUnhold c)
  | retired (c : Chan) : (s.ctl c).state.configurable = true → s.children c = [] →
      (s.cfg c).admin ≠ .retired → Served h s (s.takeRetire c)
  | restored (c : Chan) : (s.cfg c).admin = .retired → Served h s (s.takeRestore c)
  | powerSet (ops : List Byte) (c : Chan) (f : ChannelConfig) : powerOperands s ops = some (c, f) →
      (s.ctl c).state.configurable = true → Served h s (State.settle s (s.setCfg c f))
  | policySet (ops : List Byte) (c : Chan) (f : ChannelConfig) : policyOperands s ops = some (c, f) →
      (s.ctl c).state.configurable = true → s.parentAllowed c f.parent = true →
      Served h s (s.takePolicy c f)
  | faultSet (ops : List Byte) (c : Chan) (f : ChannelConfig) : faultOperands s ops = some (c, f) →
      (s.ctl c).state.configurable = true → Served h s ((s.setCfg c f).applyRetryLimit c)
  | viewSet (g : HostId) (l : Chan) (e : ViewEntry) : s.claimPresent g l e.physical = false →
      s.duplicateMap g l e.physical = false → Served h s (s.setViewEntry g l e)
  | railSet (r : Rail) (x : RailConfig) : x.limit ≤ 1000 → x.lossQual ≤ 15 → 1 ≤ x.restoreQual →
      x.restoreQual ≤ 255 → (s.account r).allocated ≤ x.limit → Served h s (s.takeSetRail r x)
  | committed : (∀ job, s.pm.store ≠ .writing job) → s.pm.currentGeneration ≠ lastGeneration →
      Served h s (s.takeCommit h)

section Bodies

variable {h : HostId} (ops : List Byte) {s : State}

theorem served_identify : Served h s (identifyBody h ops s).1 := by
  unfold identifyBody; split <;> exact .nothing

theorem served_open : Served h s (openBody h ops s).1 := by
  unfold openBody
  split
  · split
    · exact .opened _ _ _
    · exact .nothing
  · exact .nothing

theorem served_close (ho : (s.port h).session = .opened) : Served h s (closeBody h ops s).1 := by
  unfold closeBody
  split
  · exact .closed ho
  · exact .nothing

theorem served_lock (ho : (s.port h).session = .opened) : Served h s (lockBody h ops s).1 := by
  unfold lockBody
  split
  · split
    · exact .nothing
    next hp =>
      split
      next hl => exact .locked ho hl hp
      next => split <;> exact .nothing
  · exact .nothing

theorem served_unlock : Served h s (unlockBody h ops s).1 := by
  unfold unlockBody
  split
  · split
    · exact .unlocked
    · exact .nothing
  · exact .nothing

theorem served_claim (ho : (s.port h).session = .opened) : Served h s (claimBody h ops s).1 := by
  unfold claimBody
  split
  · split
    next p _ _ l priority _ hp =>
      have hp7 : priority ≤ 7 := by
        unfold rangeOperand at hp
        split at hp
        next hr => cases hp; exact hr.2
        next => cases hp
      unfold claimChecked
      split
      next => exact .nothing
      next c hc =>
        split
        next => exact .nothing
        next ha =>
          split
          next => exact .nothing
          next hpol =>
            split
            next hadm =>
              refine .claimed l c priority _ ho hc ha ?_ hadm hp7
              cases hx : (s.cfg c).policy <;> simp [hx] at hpol ⊢
            next => exact .nothing
    next => exact .nothing
  · exact .nothing

theorem served_release : Served h s (releaseBody h ops s).1 := by
  unfold releaseBody
  split
  · split
    · exact .nothing
    · split
      · exact .nothing
      · split
        · exact .nothing
        · exact .released _
  · exact .nothing

theorem served_channelStatus : Served h s (channelStatusBody h ops s).1 := by
  unfold channelStatusBody
  split
  · split
    · exact .nothing
    · split <;> exact .nothing
  · exact .nothing

theorem served_railStatus : Served h s (railStatusBody h ops s).1 := by
  unfold railStatusBody; split <;> exact .nothing

theorem served_nextNotice : Served h s (nextNoticeBody h ops s).1 := by
  unfold nextNoticeBody
  split
  · split
    · exact .nothing
    next n rest hn => exact .noticeTaken n rest hn
  · exact .nothing

theorem served_clearFault : Served h s (clearFaultBody h ops s).1 := by
  unfold clearFaultBody
  split
  · split
    · exact .nothing
    · split
      · exact .nothing
      next c _ =>
        split
        · unfold State.clearFault
          split
          next hl => exact .latchCleared c hl
          next hw => exact .countCleared c hw
          all_goals exact .nothing
        · exact .nothing
  · exact .nothing

/-- The checks of a one-channel configuration command let one channel through, or nothing happens. -/
theorem served_channelCommand {taken : Chan → State × Reply} (ht : ∀ c, Served h s (taken c).1) :
    Served h s (channelCommand h ops s taken).1 := by
  unfold channelCommand
  split
  · split
    · split
      · exact .nothing
      · exact ht _
    · exact .nothing
  · exact .nothing

theorem served_hold : Served h s (holdBody h ops s).1 := by
  refine served_channelCommand ops fun c => ?_
  dsimp only
  split
  next ha => exact .held c ha
  next => exact .nothing

theorem served_unhold : Served h s (unholdBody h ops s).1 := by
  refine served_channelCommand ops fun c => ?_
  dsimp only
  split
  next ha => exact .unheld c ha
  next => exact .nothing

theorem served_retire : Served h s (retireBody h ops s).1 := by
  refine served_channelCommand ops fun c => ?_
  split
  next hconf =>
    split
    next hch =>
      split
      next => exact .nothing
      next ha => exact .retired c hconf (List.isEmpty_iff.1 hch) ha
    next => exact .nothing
  next => exact .nothing

theorem served_restore : Served h s (restoreBody h ops s).1 := by
  refine served_channelCommand ops fun c => ?_
  dsimp only
  split
  next ha => exact .restored c ha
  next => exact .nothing

theorem served_setChannelPower : Served h s (setChannelPowerBody h ops s).1 := by
  unfold setChannelPowerBody
  split
  · split
    · split
      · exact .nothing
      next c f hf =>
        split
        next hconf => exact .powerSet ops c f hf hconf
        next => exact .nothing
    · exact .nothing
  · exact .nothing

theorem served_setChannelPolicy : Served h s (setChannelPolicyBody h ops s).1 := by
  unfold setChannelPolicyBody
  split
  · split
    · split
      · exact .nothing
      next c f hf =>
        split
        next hconf =>
          split
          next hp => exact .policySet ops c f hf hconf hp
          next => exact .nothing
        next => exact .nothing
    · exact .nothing
  · exact .nothing

theorem served_setChannelFault : Served h s (setChannelFaultBody h ops s).1 := by
  unfold setChannelFaultBody
  split
  · split
    · split
      · exact .nothing
      next c f hf =>
        split
        next hconf => exact .faultSet ops c f hf hconf
        next => exact .nothing
    · exact .nothing
  · exact .nothing

theorem served_getChannelConfig : Served h s (getChannelConfigBody h ops s).1 := by
  unfold getChannelConfigBody
  split
  · split <;> exact .nothing
  · exact .nothing

theorem served_setViewEntry : Served h s (setViewEntryBody h ops s).1 := by
  unfold setViewEntryBody
  split
  · split
    · split
      next g l c w _ _ _ _ =>
        split
        next => exact .nothing
        next hp =>
          split
          next => exact .nothing
          next hd => exact .viewSet g l ⟨c, w⟩ (by simpa using hp) (by simpa using hd)
      next => exact .nothing
    · exact .nothing
  · exact .nothing

theorem served_getViewEntry : Served h s (getViewEntryBody h ops s).1 := by
  unfold getViewEntryBody
  split
  · split <;> exact .nothing
  · exact .nothing

theorem rangeOperand_eq_some {lo hi : Nat} {b : Byte} {n : Nat} :
    rangeOperand lo hi b = some n ↔ n = b.toNat ∧ lo ≤ n ∧ n ≤ hi := by
  unfold rangeOperand
  constructor
  · intro h
    split at h
    next hr => cases h; exact ⟨rfl, hr.1, hr.2⟩
    next => cases h
  · rintro ⟨rfl, hlo, hhi⟩
    exact if_pos ⟨hlo, hhi⟩

theorem served_setRail : Served h s (setRailBody h ops s).1 := by
  unfold setRailBody
  split
  · split
    · split
      next r loss restore _ hloss hrestore =>
        rw [rangeOperand_eq_some] at hloss hrestore
        dsimp only
        split
        next hlim =>
          split
          next => exact .nothing
          next hall =>
            exact .railSet r ⟨_, loss, restore⟩ hlim hloss.2.2 hrestore.2.1 hrestore.2.2
              (Nat.not_lt.1 hall)
        next => exact .nothing
      next => exact .nothing
    · exact .nothing
  · exact .nothing

theorem served_getRail : Served h s (getRailBody h ops s).1 := by
  unfold getRailBody
  split
  · split <;> exact .nothing
  · exact .nothing

theorem served_dropClaims : Served h s (dropClaimsBody h ops s).1 := by
  unfold dropClaimsBody
  split
  · split
    · split
      · exact .nothing
      next g _ =>
        split
        next => exact .nothing
        next => exact .nothing
        next hl => exact .orphansDropped g hl
    · exact .nothing
  · exact .nothing

theorem served_commit : Served h s (commitBody h ops s).1 := by
  unfold commitBody
  split
  · split
    · split
      · exact .nothing
      all_goals
        next hw =>
        split
        next => exact .nothing
        next hg => exact .committed (by simp [hw]) hg
    · exact .nothing
  · exact .nothing

theorem served_profileStatus : Served h s (profileStatusBody h ops s).1 := by
  unfold profileStatusBody; split <;> exact .nothing

end Bodies

/-- What the body that a CMD byte names can do, where the session state lets the command through. -/
theorem served_of_body {h : HostId} {s : State} {cmd : Byte}
    (ha : (s.port h).session.admits cmd = true) (ops : List Byte) :
    Served h s (commandBody cmd h ops s).1 := by
  have opened (hid : cmd ≠ codeIdentify) (hop : cmd ≠ codeOpen) : (s.port h).session = .opened := by
    by_contra hx
    rw [admits_eq_false hx hid hop] at ha
    cases ha
  have named {n : Nat} (hn : cmd.toNat = n) (h1 : n ≠ 1) (h2 : n ≠ 2) : (s.port h).session = .opened :=
    opened (fun e => h1 (by rw [← hn, e]; rfl)) fun e => h2 (by rw [← hn, e]; rfl)
  generalize hb : commandBody cmd = body
  unfold commandBody at hb
  split at hb <;> subst hb
  next => exact served_identify ops
  next => exact served_open ops
  next hn => exact served_close ops (named hn (by decide) (by decide))
  next => exact .nothing
  next hn => exact served_lock ops (named hn (by decide) (by decide))
  next => exact served_unlock ops
  next hn => exact served_claim ops (named hn (by decide) (by decide))
  next => exact served_release ops
  next => exact served_channelStatus ops
  next => exact served_railStatus ops
  next => exact served_nextNotice ops
  next => exact served_clearFault ops
  next => exact served_hold ops
  next => exact served_unhold ops
  next => exact served_retire ops
  next => exact served_restore ops
  next => exact served_setChannelPower ops
  next => exact served_setChannelPolicy ops
  next => exact served_setChannelFault ops
  next => exact served_getChannelConfig ops
  next => exact served_setViewEntry ops
  next => exact served_getViewEntry ops
  next => exact served_setRail ops
  next => exact served_getRail ops
  next => exact served_dropClaims ops
  next => exact served_commit ops
  next => exact served_profileStatus ops
  next => exact .nothing

/-! ### What a row of the table does -/

/-- The port's own items apart: the session record but for the running lease stands. -/
structure Port.SameSession (p q : Port) : Prop where
  session : q.session = p.session
  leasePeriod : q.leasePeriod = p.leasePeriod
  orphanMode : q.orphanMode = p.orphanMode
  attention : q.attention = p.attention

theorem Port.SameSession.refl (p : Port) : p.SameSession p := ⟨rfl, rfl, rfl, rfl⟩

theorem Port.SameSession.trans {p q r : Port} (h : p.SameSession q) (k : q.SameSession r) :
    p.SameSession r :=
  ⟨k.session.trans h.session, k.leasePeriod.trans h.leasePeriod, k.orphanMode.trans h.orphanMode,
    k.attention.trans h.attention⟩

theorem Port.sameSession_renewed (p : Port) : p.SameSession p.renewed := by
  unfold Port.renewed
  split
  · exact ⟨rfl, rfl, rfl, rfl⟩
  · exact .refl p

/-- What an event of the Sense Unit or a timer does once the load is over. -/
inductive Own (s : State) : State → Prop where
  | sampled (x : Sample) : Own s (s.takeSample x)
  | tripped (c : Chan) : Own s (State.settle s (s.takeTrip c))
  | enableChanged (k : LineId) : Own s (State.settle s (s.takeEnable k))
  | detached (c : Chan) : Own s (State.settle s (s.takeDetach c))
  | blankingOver (c : Chan) : Own s (s.takeBlanking c)
  | softStartOver (c : Chan) : Own s (s.takeSoftStart c)
  | stableOver (c : Chan) : Own s (s.takeStable c)
  | dischargeOver (c : Chan) : Own s (s.takeDischarge c)
  | backoffOver (c : Chan) : Own s (s.takeBackoff c)
  | deadTimeOver (c : Chan) : Own s (s.takeDeadTime c)
  | restoreOver (r : Rail) : (s.rail r).state = .rising → Own s (s.qualifyRail r)
  | lossOver (r : Rail) : (s.rail r).state = .falling → Own s (State.settle s (s.loseRail r))

/-- What a row of the table can do to a state, its next state as the last argument. -/
inductive Does (s : State) : State → Prop where
  | nothing : Does s s
  | portOnly (h : HostId) (p : Port) : (s.port h).SameSession p →
      (s.isLoading = true → p.leaseTimer = (s.port h).leaseTimer ∧ p.replay = (s.port h).replay) →
      Does s (s.setPort h p)
  | served (h : HostId) (p : Port) (u : State) : s.isLoading = false →
      Served h (s.setPort h (s.port h).renewed) u → (u.port h).SameSession p →
      Does s (u.setPort h p)
  | reset (cause : ResetCause) : Does s (s.afterReset cause)
  | loadBegun : s.pm.store = .loading .inReset → Does s s.beginLoad
  | loaded (choice : Option SlotId) : s.pm.store = .loading (.chosen choice) →
      Does s (s.completeLoad choice)
  | commitEnded (job : CommitJob) (verified : Bool) : s.pm.store = .writing job →
      commitMin ≤ job.age → Does s (s.endCommit job verified)
  | lapsed (h : HostId) : s.isLoading = false → (s.port h).session = .opened →
      (s.port h).leaseTimer = some 0 → Does s (s.takeLapse h)
  | own (t : State) : s.isLoading = false → Own s t → Does s t

/-- An answer changes the receiver and the response of the port alone. -/
theorem gives_sameSession (p : Port) (frame : List Byte) : p.SameSession (p.gives frame) :=
  ⟨rfl, rfl, rfl, rfl⟩

theorem does_answer (s : State) (h : HostId) (seq : Byte) (r : Reply) : Does s (s.answer h seq r) :=
  .portOnly h _ (gives_sameSession _ _) fun _ => ⟨rfl, rfl⟩

/-- Storing and answering an executed frame touches the receiver, the response and the replay store. -/
theorem answer_store_eq (u : State) (h : HostId) (seq cmd : Byte) (ops : List Byte) (r : Reply) :
    ∃ p, (u.port h).SameSession p ∧ (u.store h seq cmd ops r).answer h seq r = u.setPort h p := by
  unfold State.store
  split
  · exact ⟨_, gives_sameSession _ _, answer_eq_gives u h seq r⟩
  · refine ⟨_, ⟨?_, ?_, ?_, ?_⟩, by rw [answer_eq_gives, State.port_setPort, State.setPort_setPort]⟩
    all_goals rfl

theorem does_replay {s : State} (hl : s.isLoading = false) (h : HostId) (seq cmd : Byte)
    (ops : List Byte) (e : ReplayEntry) : Does s (s.replay h seq cmd ops e) := by
  have only (frame : List Byte) : Does s ((s.renewLease h).respond h frame) := by
    unfold State.respond
    rw [renewLease_eq, State.port_setPort, State.setPort_setPort]
    refine .portOnly h _ ((Port.sameSession_renewed _).trans (gives_sameSession _ frame)) fun hload => ?_
    rw [hl] at hload
    cases hload
  unfold State.replay
  split
  · exact only _
  · exact only _

theorem does_takeFrame (s : State) (h : HostId) (seq cmd : Byte) (ops : List Byte) :
    Does s (s.takeFrame h seq cmd ops (commandBody cmd)) := by
  unfold State.takeFrame
  split
  · split
    · exact does_answer s h seq _
    next hl =>
      have hl : s.isLoading = false := by simpa using hl
      split
      · exact does_answer s h seq _
      · split
        next e _ => exact does_replay hl h seq cmd ops e
        next =>
          unfold State.execute
          split
          next hadm =>
            dsimp only
            rw [renewLease_eq]
            obtain ⟨p, hp, he⟩ := answer_store_eq
              (commandBody cmd h ops (s.setPort h (s.port h).renewed)).1 h seq cmd ops
              (commandBody cmd h ops (s.setPort h (s.port h).renewed)).2
            rw [he]
            refine .served h p _ hl (served_of_body ?_ ops) hp
            rwa [State.port_setPort, (Port.sameSession_renewed _).session]
          next => exact does_answer s h seq _
  · exact .nothing

/-- A guarded row does what it does, or nothing. -/
theorem does_ite {s t : State} {b : Bool} (h : b = true → Does s t) : Does s (if b then t else s) := by
  split
  · exact h ‹_›
  · exact .nothing

/-- Every row of the table does one of these. -/
theorem exec_does {i : Instr} {s t : State} (h : exec i s = .next t) : Does s t := by
  have due {u : State} {b : Bool} (hu : Own s u) : Does s (if !s.isLoading && b then u else s) :=
    does_ite fun hb => .own u (by simp at hb; exact hb.1) hu
  have awake {u : State} (hu : Own s u) : Does s (if s.isLoading then s else u) := by
    split
    · exact .nothing
    · exact .own u (by simpa using ‹¬s.isLoading = true›) hu
  cases hq : requestOf i with
  | some q =>
    rw [exec_request hq] at h
    cases h
    exact does_takeFrame s _ _ _ _
  | none =>
    cases i <;> simp only [requestOf, reduceCtorEq] at hq
    case powerOnReset => cases h; exact .reset _
    case resetN =>
      cases h
      split
      · exact .nothing
      · exact .reset _
    case resetEnd =>
      simp only [exec, execResetEnd] at h
      split at h <;> cases h
      next hs => exact .loadBegun hs
      all_goals exact .nothing
    case loadCompletion =>
      simp only [exec, execLoadCompletion] at h
      split at h <;> cases h
      next hs => exact .loaded _ hs
      all_goals exact .nothing
    case transactionOpen g =>
      cases h
      split
      · exact .nothing
      · exact .portOnly g _ ⟨rfl, rfl, rfl, rfl⟩ fun _ => ⟨rfl, rfl⟩
    case transactionEnd g =>
      cases h
      exact does_ite fun _ => .portOnly g _ ⟨rfl, rfl, rfl, rfl⟩ fun _ => ⟨rfl, rfl⟩
    case frameError g seq cmd len =>
      cases h
      exact does_ite fun _ => does_answer s g seq _
    case commitCompletion verified =>
      simp only [exec, execCommitCompletion] at h
      split at h <;> cases h
      next job hs =>
        split
        next hage => exact .commitEnded job verified hs hage
        next => exact .nothing
      all_goals exact .nothing
    case lapse g =>
      cases h
      refine does_ite fun hb => ?_
      simp only [Bool.and_eq_true, decide_eq_true_eq, Bool.not_eq_true'] at hb
      exact .lapsed g hb.1.1 hb.1.2 hb.2
    case senseSample x => cases h; exact awake (.sampled x)
    case tripEvent c => cases h; exact awake (.tripped c)
    case enableEvent k => cases h; exact awake (.enableChanged k)
    case detachEvent c => cases h; exact awake (.detached c)
    case blankingExpiry c => cases h; exact due (.blankingOver c)
    case softStartExpiry c => cases h; exact due (.softStartOver c)
    case stableExpiry c => cases h; exact due (.stableOver c)
    case dischargeExpiry c => cases h; exact due (.dischargeOver c)
    case backoffExpiry c => cases h; exact due (.backoffOver c)
    case deadTimeExpiry c => cases h; exact due (.deadTimeOver c)
    case restoreExpiry r =>
      cases h
      refine does_ite fun hb => ?_
      simp only [Bool.and_eq_true, decide_eq_true_eq, Bool.not_eq_true'] at hb
      exact .own _ hb.1.1 (.restoreOver r hb.2)
    case lossExpiry r =>
      cases h
      refine does_ite fun hb => ?_
      simp only [Bool.and_eq_true, decide_eq_true_eq, Bool.not_eq_true'] at hb
      exact .own _ hb.1.1 (.lossOver r hb.2)

/-- A law that looks at neither the waiting commands nor the draw counter, and that everything a row does and a
passing millisecond keep, is kept by every step. -/
theorem step_keeps_of_does {P : State → Prop} (hp : ∀ s l, P s → P { s with pending := l })
    (hd : ∀ s n, P s → P { s with draws := n }) (he : ∀ s t, P s → Does s t → P t)
    (ht : ∀ s, P s → P s.passTime) {s t : State} (hs : P s) (h : step s = .next t) : P t :=
  step_keeps hp hd (fun _ s t hs hx => he s t hs (exec_does hx)) ht hs h

end Sys2Proof.Machine
end

section
/-! PROOFS. What commands and events do to the tables: Profile Memory, the configuration, the lock, the ports, the
claims and the notice queues. -/

namespace Sys2Proof.Machine

/-! ### The part's own events -/

/-- What an event of the Sense Unit or a timer leaves of the tables: claims only go, by a detach with RELEASE,
and notice queues only grow. -/
structure Drifts (s t : State) : Prop where
  pm : t.pm = s.pm
  deviceTime : t.deviceTime = s.deviceTime
  config : t.config = s.config
  lock : t.lock = s.lock
  ports : t.ports = s.ports
  pending : t.pending = s.pending
  claims : ∀ c g, t.claimOf c g = s.claimOf c g ∨
    t.claimOf c g = none ∧ (s.cfg c).detachAction = .release
  grown : QueuesGrow s t

theorem Moves.drifts {s t : State} (h : Moves s t) : Drifts s t :=
  ⟨h.kept.pm, h.kept.deviceTime, h.kept.config, h.kept.lock, h.kept.ports, h.kept.pending,
    fun c g => .inl (h.claimOf c g), h.grown⟩

theorem Drifts.refl (s : State) : Drifts s s := (Moves.refl s).drifts

theorem Drifts.port {s t : State} (h : Drifts s t) (g : HostId) : t.port g = s.port g := by
  simp [State.port, h.ports]

theorem Drifts.cfg {s t : State} (h : Drifts s t) (c : Chan) : t.cfg c = s.cfg c := by
  simp [State.cfg, h.config]

theorem Drifts.isLoading {s t : State} (h : Drifts s t) : t.isLoading = s.isLoading := by
  simp [State.isLoading, h.pm]

theorem QueuesGrow.trans {s t u : State} (h : QueuesGrow s t) (k : QueuesGrow t u)
    (hp : ∀ g, t.port g = s.port g) : QueuesGrow s u := by
  intro g
  obtain ⟨x, hx, hc⟩ := h g
  obtain ⟨y, hy, hd⟩ := k g
  refine ⟨x ++ y, by rw [hy, hx, List.append_assoc], fun hg => ?_⟩
  rw [hd (by rwa [hp]), hc hg]

theorem Drifts.trans {s t u : State} (h : Drifts s t) (k : Drifts t u) : Drifts s u where
  pm := k.pm.trans h.pm
  deviceTime := k.deviceTime.trans h.deviceTime
  config := k.config.trans h.config
  lock := k.lock.trans h.lock
  ports := k.ports.trans h.ports
  pending := k.pending.trans h.pending
  claims c g := by
    rcases k.claims c g with e | ⟨e, hr⟩
    · rw [e]; exact h.claims c g
    · exact .inr ⟨e, by rwa [h.cfg] at hr⟩
  grown := h.grown.trans k.grown h.port

/-- A change of what the sense tables keep, of a rail monitor or of an enable line drifts. -/
theorem drifts_of_sensing {s t : State} (h : t = { s with
    sense := t.sense, xf := t.xf, enables := t.enables, rails := t.rails }) : Drifts s t := by
  rw [h]
  exact ⟨rfl, rfl, rfl, rfl, rfl, rfl, fun _ _ => .inl rfl, fun _ => ⟨[], by simp [State.noticesOf]⟩⟩

theorem drifts_setRail (s : State) (r : Rail) (x : RailMonitor) : Drifts s (s.setRail r x) :=
  drifts_of_sensing rfl

theorem drifts_loseRail (s : State) (r : Rail) : Drifts s (s.loseRail r) :=
  (drifts_setRail s r _).trans (moves_loseRail s r).drifts

theorem drifts_settle (s t : State) : Drifts t (State.settle s t) := (moves_settle s t).drifts

theorem drifts_railGood (s : State) (r : Rail) : Drifts s (s.railGood r) := by
  unfold State.railGood
  dsimp only
  split
  · exact drifts_setRail s r _
  · exact drifts_setRail s r _
  · exact .refl s
  · exact .refl s

theorem drifts_railLost (s : State) (r : Rail) : Drifts s (s.railLost r) := by
  unfold State.railLost
  dsimp only
  split
  · exact drifts_setRail s r _
  · have hfall := drifts_setRail s r { s.rail r with
      state := .falling, lossTimer := startTimer (s.config.rails.of r).lossQual }
    split
    · exact hfall.trans (drifts_loseRail _ r)
    · exact hfall
  · exact .refl s
  · exact .refl s

theorem drifts_takeEnable (s : State) (k : LineId) : Drifts s (s.takeEnable k) := by
  unfold State.takeEnable
  split
  · exact (drifts_of_sensing (t := s.setLine k ⟨!(s.line k).qualified, 0⟩) rfl).trans
      (moves_recompute _).drifts
  · exact .refl s

/-- Movement after a removal of records leaves everything outside the claim table as `Moves` says. -/
theorem drifts_of_removeClaims {s t : State} {named : Chan → HostId → Bool}
    (hm : Moves (s.removeClaims named) t)
    (h : ∀ c g, named c g = true → (s.cfg c).detachAction = .release) : Drifts s t := by
  have hclaims (c : Chan) (g : HostId) : t.claimOf c g = if named c g then none else s.claimOf c g := by
    rw [hm.claimOf, State.removeClaims_claimOf]
  rw [State.removeClaims_frame] at hm
  generalize (s.removeClaims named).claims = x at hm
  refine ⟨hm.kept.pm, hm.kept.deviceTime, hm.kept.config, hm.kept.lock, hm.kept.ports,
    hm.kept.pending, fun c g => ?_, hm.grown⟩
  rw [hclaims]
  by_cases hn : named c g = true
  · exact .inr ⟨by rw [if_pos hn], h c g hn⟩
  · exact .inl (by rw [if_neg hn])

theorem drifts_takeDetach (s : State) (c : Chan) : Drifts s (s.takeDetach c) := by
  unfold State.takeDetach
  dsimp only
  split
  · have hseen := (moves_setSen s c { s.sen c with detachPassed := false }).drifts
    split
    · have htold := hseen.trans (moves_reportChannel _ c (.detached (s.cfg c).detachAction)).drifts
      split
      · exact htold
      next hr =>
        refine htold.trans (drifts_of_removeClaims (moves_dropReported _ _ _) fun k g hk => ?_)
        rw [htold.cfg]
        have hk : k = c := by simpa using hk
        rw [hk]
        exact hr
    · exact hseen
  · exact .refl s

theorem drifts_takeSenseEvent (s : State) (e : SenseEvent) : Drifts s (s.takeSenseEvent e) := by
  cases e with
  | powerGoodArrival c => exact (moves_takeSenseEvent s c 0).1.drifts
  | powerGoodLoss c => exact (moves_takeSenseEvent s c 0).2.1.drifts
  | xfLevel k high => exact drifts_of_sensing rfl
  | xfAssertion k c => exact (moves_takeSenseEvent s c k).2.2.drifts
  | railGood r => exact drifts_railGood s r
  | railLost r => exact drifts_railLost s r
  | trip c => exact (moves_takeTrip s c).drifts
  | detach c => exact drifts_takeDetach s c
  | enable k => exact drifts_takeEnable s k

theorem drifts_takeSample (s : State) (x : Sample) : Drifts s (s.takeSample x) := by
  unfold State.takeSample
  dsimp only
  refine .trans ?_ (moves_ignoreBlanked _).drifts
  refine inFreeOrder_keeps (P := Drifts s)
    (fun e t ht => (ht.trans (drifts_takeSenseEvent t e)).trans (drifts_settle _ _))
    (fun t ht => ht.trans (moves_draw t _).drifts) _ _ _ ?_
  exact drifts_of_sensing (s.keepSample_frame x)

theorem moves_takeBlanking (s : State) (c : Chan) : Moves s (s.takeBlanking c) := moves_setCtl s c _

theorem moves_takeStable (s : State) (c : Chan) : Moves s (s.takeStable c) := moves_setCtl s c _

theorem moves_takeSoftStart (s : State) (c : Chan) : Moves s (s.takeSoftStart c) := by
  unfold State.takeSoftStart
  dsimp only
  split
  · exact ((moves_setCtl s c _).trans (moves_fault _ _ c)).trans (moves_settle _ _)
  · exact moves_setCtl s c _

theorem moves_takeDischarge (s : State) (c : Chan) : Moves s (s.takeDischarge c) := by
  have ended := ((moves_setCtl s c { s.ctl c with discharge := none }).trans (moves_endWait _ c)).trans
    (moves_settle s _)
  unfold State.takeDischarge
  dsimp only
  split
  · exact ended
  · split
    · exact moves_setCtl s c _
    · exact ended
  all_goals exact moves_setCtl s c _

theorem moves_takeBackoff (s : State) (c : Chan) : Moves s (s.takeBackoff c) := by
  unfold State.takeBackoff
  dsimp only
  split
  · exact ((moves_setCtl s c _).trans (moves_endWait _ c)).trans (moves_settle _ _)
  · exact moves_setCtl s c _

theorem moves_takeDeadTime (s : State) (c : Chan) : Moves s (s.takeDeadTime c) := by
  unfold State.takeDeadTime
  dsimp only
  split
  · exact ((moves_setCtl s c _).trans (moves_enterSoftstart _ c)).trans (moves_settle _ _)
  · exact moves_setCtl s c _

theorem own_drifts {s t : State} (h : Own s t) : Drifts s t := by
  cases h with
  | sampled x => exact drifts_takeSample s x
  | tripped c => exact ((moves_takeTrip s c).trans (moves_settle _ _)).drifts
  | enableChanged k => exact (drifts_takeEnable s k).trans (drifts_settle _ _)
  | detached c => exact (drifts_takeDetach s c).trans (drifts_settle _ _)
  | blankingOver c => exact (moves_takeBlanking s c).drifts
  | softStartOver c => exact (moves_takeSoftStart s c).drifts
  | stableOver c => exact (moves_takeStable s c).drifts
  | dischargeOver c => exact (moves_takeDischarge s c).drifts
  | backoffOver c => exact (moves_takeBackoff s c).drifts
  | deadTimeOver c => exact (moves_takeDeadTime s c).drifts
  | restoreOver r hr =>
    exact ((drifts_setRail s r _).trans (moves_reportRail _ _).drifts).trans (drifts_settle _ _)
  | lossOver r hr => exact (drifts_loseRail s r).trans (drifts_settle _ _)

/-! ### The bodies -/

/-- What the body of a command of host `h` can do to the tables, before the controllers and the arbiters move. -/
inductive Tabled (h : HostId) (s : State) : State → Prop where
  | nothing : Tabled h s s
  | opened (period : Nat) (mode : OrphanMode) (attention : Bool) :
      Tabled h s (s.takeOpen h period mode attention).1
  | closed : (s.port h).session = .opened →
      Tabled h s ((s.endSession h .closed).removeClaims fun _ g => g = h)
  | locked : (s.port h).session = .opened → s.lock = none → (s.port h).leasePeriod ≠ 0 →
      Tabled h s { s with lock := some h }
  | unlocked : Tabled h s { s with lock := none }
  | claimsRemoved (named : Chan → HostId → Bool) : Tabled h s (s.removeClaims named)
  | claimed (l c : Chan) (priority : Nat) (tag : BitVec 16) : (s.port h).session = .opened →
      (s.viewEntry h l).physical = some c → (s.cfg c).admin ≠ .retired →
      (s.cfg c).policy = .any ∨ (s.cfg c).policy = .all → ChannelConfig.admits (s.cfg c) h = true →
      priority ≤ 7 → Tabled h s (s.recordClaim h c priority tag)
  | noticeTaken (n : Notice) (rest : List Notice) : s.noticesOf h = n :: rest →
      Tabled h s (s.setNotices h rest)
  | adminSet (c : Chan) (x : Admin) : x ≠ .retired → Tabled h s (s.setAdmin c x)
  | retired (c : Chan) : s.children c = [] →
      Tabled h s ((s.setAdmin c .retired).removeClaims fun k _ => k = c)
  | powerSet (ops : List Byte) (c : Chan) (f : ChannelConfig) : powerOperands s ops = some (c, f) →
      Tabled h s (s.setCfg c f)
  | policySet (ops : List Byte) (c : Chan) (f : ChannelConfig) : policyOperands s ops = some (c, f) →
      s.parentAllowed c f.parent = true →
      Tabled h s ((s.setCfg c f).removeClaims (s.droppedByPolicy c f))
  | faultSet (ops : List Byte) (c : Chan) (f : ChannelConfig) : faultOperands s ops = some (c, f) →
      Tabled h s (s.setCfg c f)
  | viewSet (g : HostId) (l : Chan) (e : ViewEntry) : s.claimPresent g l e.physical = false →
      s.duplicateMap g l e.physical = false → Tabled h s (s.setViewEntry g l e)
  | railSet (r : Rail) (x : RailConfig) : x.limit ≤ 1000 → x.lossQual ≤ 15 → 1 ≤ x.restoreQual →
      x.restoreQual ≤ 255 →
      Tabled h s { s with config := { s.config with rails := s.config.rails.setOf r x } }
  | committed : (∀ job, s.pm.store ≠ .writing job) → s.pm.currentGeneration ≠ lastGeneration →
      Tabled h s (s.takeCommit h)

/-- A released claim is a record removed. -/
theorem setClaim_none_eq_removeClaims (s : State) (c : Chan) (h : HostId) :
    s.setClaim c h none = s.removeClaims fun k g => k = c && g = h := by
  have hc : (s.setClaim c h none).claims = (s.removeClaims fun k g => k = c && g = h).claims := by
    refine table_ext fun k => table_ext fun g => ?_
    have hl := s.claimOf_setClaim c k h g none
    have hr := s.removeClaims_claimOf (fun k g => k = c && g = h) k g
    simp only [State.claimOf] at hl hr
    rw [hl, hr]
    by_cases e : k = c ∧ g = h
    · simp [e]
    · rw [if_neg e, if_neg (by simpa using e)]
  rw [State.removeClaims_frame, ← hc]
  rfl

theorem moves_controllerHold (s : State) (c : Chan) : Moves s (s.controllerHold c) := by
  unfold State.controllerHold
  split
  · exact (moves_unqueue s c).trans (moves_enterOff _ c)
  · exact moves_stop s _ c
  · exact moves_stop s _ c
  · exact moves_stop s _ c
  · exact moves_abandonRetry s c
  all_goals exact .refl s

theorem moves_controllerUnhold (s : State) (c : Chan) : Moves s (s.controllerUnhold c) := by
  unfold State.controllerUnhold
  split
  · split
    · exact moves_enterQueued s c
    · exact .refl s
  all_goals exact .refl s

theorem moves_controllerRetire (s : State) (c : Chan) : Moves s (s.controllerRetire c) := by
  unfold State.controllerRetire
  split
  · exact moves_setCtl s c _
  · exact moves_setCtl s c _
  all_goals exact .refl s

theorem moves_controllerRestore (s : State) (c : Chan) : Moves s (s.controllerRestore c) := by
  unfold State.controllerRestore
  split
  · split
    · exact moves_setCtl s c _
    · exact moves_enterOff s c
  all_goals exact .refl s

theorem moves_clearLatched (s : State) (c : Chan) : Moves s (s.clearLatched c) := by
  unfold State.clearLatched
  dsimp only
  refine (Moves.trans ?_ (moves_recompute _)).trans (moves_settle _ _)
  have hcount := moves_setCtl s c { s.ctl c with retryCount := 0 }
  split
  · exact hcount.trans (moves_setCtl _ c _)
  · exact hcount.trans (moves_enterOff _ c)

theorem moves_applyRetryLimit (s : State) (c : Chan) : Moves s (s.applyRetryLimit c) := by
  unfold State.applyRetryLimit
  split
  · exact moves_setCtl s c _
  · exact .refl s

/-- The tables change first; what then happens is the controllers' and the arbiters'. -/
theorem served_tabled {h : HostId} {s u : State} (hu : Served h s u) :
    ∃ t, Tabled h s t ∧ Moves t u := by
  have recomputed {t v : State} (hv : Moves t v) : Moves t (State.settle s v.recompute) :=
    (hv.trans (moves_recompute v)).trans (moves_settle _ _)
  have dropped {t v : State} (named : Chan → HostId → Bool) (cause : DropCause) (hv : Moves t v) :
      Moves (t.removeClaims named) (State.settle s (v.dropReported named cause)) :=
    ((moves_removeClaims hv named).trans (moves_dropReported v named cause)).trans (moves_settle _ _)
  cases hu with
  | nothing => exact ⟨_, .nothing, .refl s⟩
  | opened period mode attention => exact ⟨_, .opened period mode attention, .refl _⟩
  | closed ho => exact ⟨_, .closed ho, (moves_dropSilently _ _).trans (moves_settle _ _)⟩
  | locked ho hl hp => exact ⟨_, .locked ho hl hp, .refl _⟩
  | unlocked => exact ⟨_, .unlocked, .refl _⟩
  | orphansDropped g hg => exact ⟨_, .claimsRemoved _, (moves_dropSilently s _).trans (moves_settle _ _)⟩
  | claimed l c priority tag ho hv ha hp hadm h7 =>
    exact ⟨_, .claimed l c priority tag ho hv ha hp hadm h7, recomputed (.refl _)⟩
  | released c =>
    refine ⟨_, .claimsRemoved (fun k g => k = c && g = h), ?_⟩
    rw [← setClaim_none_eq_removeClaims]
    exact recomputed (.refl _)
  | noticeTaken n rest hn => exact ⟨_, .noticeTaken n rest hn, .refl _⟩
  | latchCleared c hc => exact ⟨_, .nothing, moves_clearLatched s c⟩
  | countCleared c hc => exact ⟨_, .nothing, moves_setCtl s c _⟩
  | held c ha => exact ⟨_, .adminSet c .held (by decide), recomputed (moves_controllerHold _ c)⟩
  | unheld c ha => exact ⟨_, .adminSet c .enabled (by decide), recomputed (moves_controllerUnhold _ c)⟩
  | retired c hconf hch ha => exact ⟨_, .retired c hch, dropped _ _ (moves_controllerRetire _ c)⟩
  | restored c ha => exact ⟨_, .adminSet c .enabled (by decide), recomputed (moves_controllerRestore _ c)⟩
  | powerSet ops c f hf hconf => exact ⟨_, .powerSet ops c f hf, moves_settle _ _⟩
  | policySet ops c f hf hconf hp => exact ⟨_, .policySet ops c f hf hp, dropped _ _ (.refl _)⟩
  | faultSet ops c f hf hconf => exact ⟨_, .faultSet ops c f hf, moves_applyRetryLimit _ c⟩
  | viewSet g l e hp hd => exact ⟨_, .viewSet g l e hp hd, .refl _⟩
  | railSet r x hl hq h1 h2 hall =>
    exact ⟨_, .railSet r x hl hq h1 h2, (moves_setAccount _ r _).trans (moves_settle _ _)⟩
  | committed hw hg => exact ⟨_, .committed hw hg, .refl _⟩

end Sys2Proof.Machine
end

section
/-! PROOFS. The laws of the tables that every step keeps: the load, the lock, Profile Memory and the claims. -/

namespace Sys2Proof.Machine

/-! ### The load -/

theorem isLoading_of_writing {s : State} {job : CommitJob} (h : s.pm.store = .writing job) :
    s.isLoading = false := by
  simp [State.isLoading, h]

theorem isLoading_of_loading {s : State} {phase : LoadPhase} (h : s.pm.store = .loading phase) :
    s.isLoading = true := by
  simp [State.isLoading, h]

/-- No command body begins a load. -/
theorem tabled_isLoading {h : HostId} {s t : State} (ht : Tabled h s t) (hs : s.isLoading = false) :
    t.isLoading = false := by
  cases ht
  case opened period mode attention =>
    unfold State.takeOpen
    dsimp only
    split
    · exact hs
    · split
      · unfold State.freeLock
        split <;> exact hs
      · exact hs
    · exact hs
  case closed ho =>
    unfold State.endSession State.freeLock
    split <;> exact hs
  case committed => rfl
  all_goals exact hs

theorem served_isLoading {h : HostId} {s u : State} (hu : Served h s u) (hs : s.isLoading = false) :
    u.isLoading = false := by
  obtain ⟨t, ht, hm⟩ := served_tabled hu
  rw [hm.drifts.isLoading]
  exact tabled_isLoading ht hs

theorem isLoading_takeLapse (s : State) (h : HostId) : (s.takeLapse h).isLoading = s.isLoading := by
  have ended : (s.endSession h .lapsed).isLoading = s.isLoading := by
    unfold State.endSession State.freeLock
    split <;> rfl
  unfold State.takeLapse
  dsimp only
  split
  · exact ended
  · rw [((moves_dropSilently _ _).trans (moves_settle _ _)).drifts.isLoading]
    exact ended

theorem isLoading_completeLoad (s : State) (choice : Option SlotId) :
    (s.completeLoad choice).isLoading = false := by
  unfold State.completeLoad
  dsimp only
  rw [((moves_recompute _).trans (moves_settle s _)).drifts.isLoading]
  rfl

theorem isLoading_endCommit (s : State) (job : CommitJob) (verified : Bool) :
    (s.endCommit job verified).isLoading = false := by
  unfold State.endCommit
  split <;> rfl

/-- A state that does not load meets the law of the load. -/
theorem loadingLaw_of_awake {s : State} (h : s.isLoading = false) : LoadingLaw s := fun hl => by
  rw [h] at hl
  cases hl

theorem loadingLaw_afterReset (s : State) (cause : ResetCause) : LoadingLaw (s.afterReset cause) := by
  refine fun _ => ⟨rfl, fun h => ?_⟩
  simp [State.afterReset, State.port, Port.atReset]

theorem loadingLaw_setPort {s : State} (hs : LoadingLaw s) (h : HostId) {p : Port}
    (hp : (s.port h).SameSession p)
    (hq : s.isLoading = true → p.leaseTimer = (s.port h).leaseTimer ∧ p.replay = (s.port h).replay) :
    LoadingLaw (s.setPort h p) := by
  intro hl
  obtain ⟨hstate, hports⟩ := hs hl
  obtain ⟨htimer, hreplay⟩ := hq hl
  refine ⟨congrArg (fun x : State => x.setPort h p) hstate, fun g => ?_⟩
  rw [State.port_setPort_of]
  split
  · obtain ⟨h1, h2, h3, h4⟩ := hp
    have hg := congrArg (fun x : Port => (x.session, x.leasePeriod, x.leaseTimer, x.orphanMode,
      x.attention, x.replay)) (hports h)
    simp only [Port.atReset, Prod.mk.injEq] at hg
    obtain ⟨g1, g2, g3, g4, g5, g6⟩ := hg
    cases p
    simp only [Port.atReset, Port.mk.injEq, true_and]
    exact ⟨h1.trans g1, h2.trans g2, htimer.trans g3, h3.trans g4, h4.trans g5, hreplay.trans g6⟩
  · exact hports g

theorem loadingLaw_does {s t : State} (hs : LoadingLaw s) (ht : Does s t) : LoadingLaw t := by
  cases ht with
  | nothing => exact hs
  | portOnly h p hp hq => exact loadingLaw_setPort hs h hp hq
  | served h p u hl hu hp =>
    exact loadingLaw_of_awake (show u.isLoading = false from served_isLoading hu hl)
  | reset cause => exact loadingLaw_afterReset s cause
  | loadBegun hb =>
    intro _
    obtain ⟨hstate, hports⟩ := hs (isLoading_of_loading hb)
    exact ⟨congrArg (fun x : State => { x with pm := s.beginLoad.pm }) hstate, hports⟩
  | loaded choice hc => exact loadingLaw_of_awake (isLoading_completeLoad s choice)
  | commitEnded job verified hj hage => exact loadingLaw_of_awake (isLoading_endCommit s job verified)
  | lapsed h hl ho hx => exact loadingLaw_of_awake (by rw [isLoading_takeLapse, hl])
  | own t hl ht => exact loadingLaw_of_awake (by rw [(own_drifts ht).isLoading, hl])

/-- A millisecond neither begins nor ends a load. -/
theorem isLoading_passTime (s : State) : s.passTime.isLoading = s.isLoading := by
  unfold State.passTime
  split
  · rfl
  next hl =>
    have hl : s.isLoading = false := by simpa using hl
    rw [hl]
    unfold State.isLoading at hl ⊢
    cases hx : s.pm.store <;> simp [hx, StoreState.tick] at hl ⊢

/-- Settles O50: only a reset begins a load, and it leaves the reset values; within a load a row changes Profile
Memory or the receiver and the response of a port. -/
theorem loadingLawIsKept : Obligations.LoadingLawIsKept := by
  intro s t hs hstep
  refine step_keeps_of_does (P := LoadingLaw) ?pending ?draws (fun _ _ => loadingLaw_does) ?time hs hstep
  case pending =>
    intro s l hs hl
    obtain ⟨hstate, hports⟩ := hs hl
    exact ⟨congrArg (fun x : State => { x with pending := l }) hstate, hports⟩
  case draws =>
    intro s n hs hl
    obtain ⟨hstate, hports⟩ := hs hl
    exact ⟨congrArg (fun x : State => { x with draws := n }) hstate, hports⟩
  case time =>
    intro s hs
    by_cases hl : s.isLoading = true
    · rw [State.passTime, if_pos hl]
      exact hs
    · exact loadingLaw_of_awake (by rw [isLoading_passTime]; simpa using hl)

/-! ### The lock -/

/-- The law of the lock looks at the lock and at sessions with their lease periods. -/
theorem lockLaw_of_same {s t : State} (hs : LockLaw s) (hl : t.lock = s.lock)
    (hp : ∀ g, (s.port g).SameSession (t.port g)) : LockLaw t := by
  intro h hh
  rw [hl] at hh
  rw [(hp h).session, (hp h).leasePeriod]
  exact hs h hh

theorem lockLaw_of_drifts {s t : State} (hs : LockLaw s) (h : Drifts s t) : LockLaw t :=
  lockLaw_of_same hs h.lock fun g => by rw [h.port]; exact .refl _

theorem lockLaw_removeClaims {s : State} (hs : LockLaw s) (named : Chan → HostId → Bool) :
    LockLaw (s.removeClaims named) := by
  rw [State.removeClaims_frame]
  exact hs

theorem lockLaw_setPort {s : State} (hs : LockLaw s) (h : HostId) {p : Port}
    (hp : (s.port h).SameSession p) : LockLaw (s.setPort h p) := by
  refine lockLaw_of_same hs rfl fun g => ?_
  rw [State.port_setPort_of]
  split
  next hg => rw [hg]; exact hp
  next => exact .refl _

theorem lockLaw_of_lock_none {s : State} (h : s.lock = none) : LockLaw s := fun g hg => by
  rw [h] at hg
  cases hg

@[simp] theorem freeLock_port (s : State) (h g : HostId) : (s.freeLock h).port g = s.port g := by
  unfold State.freeLock; split <;> rfl

theorem freeLock_lock (s : State) (h : HostId) :
    (s.freeLock h).lock = if s.lock = some h then none else s.lock := by
  unfold State.freeLock State.holdsLock
  split <;> simp_all

/-- The session of `h` ends: its port leaves OPEN and no other port changes. -/
theorem endSession_port (s : State) (h : HostId) (x : Session) (g : HostId) :
    (s.endSession h x).port g = if g = h then
      { s.port h with session := x, leaseTimer := none, replay := none } else s.port g := by
  simp [State.endSession, State.port_setPort_of]

theorem endSession_lock (s : State) (h : HostId) (x : Session) :
    (s.endSession h x).lock = if s.lock = some h then none else s.lock := by
  exact freeLock_lock _ h

/-- A host whose session ends does not keep the lock. -/
theorem lockLaw_endSession {s : State} (hs : LockLaw s) (h : HostId) (x : Session) :
    LockLaw (s.endSession h x) := by
  intro g hg
  rw [endSession_lock] at hg
  split at hg
  next => cases hg
  next hne =>
    have hgh : g ≠ h := fun e => hne (by rw [hg, e])
    rw [endSession_port, if_neg hgh]
    exact hs g hg

theorem openPort_port (s : State) (h : HostId) (period : Nat) (mode : OrphanMode) (attention : Bool)
    (g : HostId) : (s.openPort h period mode attention).port g = if g = h then
      { s.port h with
        session := .opened, leasePeriod := period, leaseTimer := fullLease period
        orphanMode := mode, attention := attention } else s.port g := by
  simp [State.openPort, State.port_setPort_of]

theorem openPort_lock (s : State) (h : HostId) (period : Nat) (mode : OrphanMode) (attention : Bool) :
    (s.openPort h period mode attention).lock = s.lock := rfl

/-- A holder that has an OPEN session keeps the lock only with a lease period. -/
theorem lockLaw_takeOpen {s : State} (hs : LockLaw s) (h : HostId) (period : Nat) (mode : OrphanMode)
    (attention : Bool) : LockLaw (s.takeOpen h period mode attention).1 := by
  have others {g : HostId} (hg : s.lock = some g) (hne : g ≠ h) :
      ((s.openPort h period mode attention).port g).session = .opened ∧
        ((s.openPort h period mode attention).port g).leasePeriod ≠ 0 := by
    rw [openPort_port, if_neg hne]
    exact hs g hg
  have notHeld (hx : (s.port h).session ≠ .opened) : LockLaw (s.openPort h period mode attention) :=
    fun g hg => others hg fun e => hx (e ▸ (hs g hg).1)
  unfold State.takeOpen
  dsimp only
  split
  next hc => exact notHeld (by simp [hc])
  next ho =>
    split
    next hzero =>
      intro g hg
      rw [freeLock_lock] at hg
      split at hg
      next => cases hg
      next hne =>
        rw [freeLock_port]
        exact others hg fun e => hne (by rw [hg, e])
    next hzero =>
      intro g hg
      by_cases hgh : g = h
      · rw [openPort_port, if_pos hgh]
        exact ⟨rfl, hzero⟩
      · exact others hg hgh
  next hl => exact notHeld (by simp [hl])

theorem lockLaw_tabled {h : HostId} {s t : State} (hs : LockLaw s) (ht : Tabled h s t) : LockLaw t := by
  cases ht
  case opened period mode attention => exact lockLaw_takeOpen hs h period mode attention
  case closed ho => exact lockLaw_endSession hs h .closed
  case locked ho hl hp =>
    intro g hg
    cases hg
    exact ⟨ho, hp⟩
  case unlocked => exact lockLaw_of_lock_none rfl
  case claimsRemoved named => exact lockLaw_removeClaims hs named
  case retired c hch => exact lockLaw_removeClaims (s := s.setAdmin c .retired) hs _
  case policySet ops c f hf hp => exact lockLaw_removeClaims (s := s.setCfg c f) hs _
  all_goals exact lockLaw_of_same hs rfl fun _ => .refl _

theorem lockLaw_does {s t : State} (hs : LockLaw s) (ht : Does s t) : LockLaw t := by
  cases ht with
  | nothing => exact hs
  | portOnly h p hp hq => exact lockLaw_setPort hs h hp
  | served h p u hl hu hp =>
    obtain ⟨v, hv, hm⟩ := served_tabled hu
    have hrenewed := lockLaw_setPort hs h (Port.sameSession_renewed _)
    exact lockLaw_setPort (lockLaw_of_drifts (lockLaw_tabled hrenewed hv) hm.drifts) h hp
  | reset cause => exact lockLaw_of_lock_none rfl
  | loadBegun hb => exact hs
  | loaded choice hc =>
    refine lockLaw_of_lock_none ?_
    rw [State.completeLoad, ((moves_recompute _).trans (moves_settle s _)).kept.lock]
  | commitEnded job verified hj hage =>
    unfold State.endCommit
    split <;> exact lockLaw_of_same hs rfl fun _ => .refl _
  | lapsed h hl ho hx =>
    have ended := lockLaw_endSession hs h .lapsed
    unfold State.takeLapse
    dsimp only
    split
    · exact lockLaw_of_same ended rfl fun _ => .refl _
    · exact lockLaw_of_drifts (lockLaw_removeClaims ended _)
        ((moves_dropSilently _ _).trans (moves_settle _ _)).drifts
  | own t hl ht => exact lockLaw_of_drifts hs (own_drifts ht)

/-- A millisecond changes of a port the running lease alone. -/
theorem passTime_sameSession (s : State) (g : HostId) : (s.port g).SameSession (s.passTime.port g) := by
  unfold State.passTime
  split
  · exact .refl _
  · simp only [State.port, look_tabulate]
    exact ⟨rfl, rfl, rfl, rfl⟩

theorem passTime_lock (s : State) : s.passTime.lock = s.lock := by rw [passTime_frame]

theorem lockLaw_step {s t : State} (hs : LockLaw s) (h : step s = .next t) : LockLaw t :=
  step_keeps_of_does (P := LockLaw) (fun _ _ hs => hs) (fun _ _ hs => hs) (fun _ _ => lockLaw_does)
    (fun s hs => lockLaw_of_same hs (passTime_lock s) (passTime_sameSession s)) hs h

end Sys2Proof.Machine
end

section
/-! PROOFS. The law of Profile Memory (R198, R199, R201, R203), and of the claims (R1, R2). -/

namespace Sys2Proof.Machine

/-! ### Profile Memory -/

theorem ProfileMemory.slot_setSlot_of (m : ProfileMemory) (i j : SlotId) (x : Slot) :
    (m.setSlot i x).slot j = if j = i then x else m.slot j := by cases i <;> cases j <;> rfl

theorem ProfileMemory.valid_setValid_of (m : ProfileMemory) (i j : SlotId) (b : Bool) :
    (m.setValid i b).valid j = if j = i then b else m.valid j := by cases i <;> cases j <;> rfl

@[simp] theorem SlotId.other_ne (i : SlotId) : i.other ≠ i := by cases i <;> decide

/-- Slot `i` is valid, known to be, and of generation `g`. -/
def ProfileMemory.Sound (m : ProfileMemory) (i : SlotId) : Prop :=
  (m.slot i).isValid = true ∧ m.valid i = true

/-- The law of Profile Memory, part by part. -/
structure ProfileMemory.Lawful (m : ProfileMemory) : Prop where
  none_iff : m.currentSlot = none ↔ m.currentGeneration = 0
  notEmpty : m.currentGeneration ≠ emptyGeneration
  current : ∀ i, m.currentSlot = some i → m.Sound i ∧ (m.slot i).generation = m.currentGeneration
  chosen : ∀ i, m.store = .loading (.chosen (some i)) → m.Sound i
  target : ∀ job, m.store = .writing job →
    m.slot job.target = Slot.erased ∧ m.valid job.target = false ∧
      m.currentSlot ≠ some job.target
  generation : ∀ job, m.store = .writing job →
    job.generation = m.currentGeneration + 1 ∧ m.currentGeneration ≠ lastGeneration

theorem profileLaw_iff (s : State) : ProfileLaw s ↔ s.pm.Lawful := by
  constructor
  · rintro ⟨h1, h2, h3, h4, h5⟩
    exact ⟨h1, h2, fun i hi => ⟨⟨(h3 i hi).1, (h3 i hi).2.2⟩, (h3 i hi).2.1⟩, h4,
      fun job hj => ⟨(h5 job hj).1, (h5 job hj).2.1, (h5 job hj).2.2.1⟩,
      fun job hj => (h5 job hj).2.2.2⟩
  · rintro ⟨h1, h2, h3, h4, h5, h6⟩
    exact ⟨h1, h2, fun i hi => ⟨(h3 i hi).1.1, (h3 i hi).2, (h3 i hi).1.2⟩, h4,
      fun job hj => ⟨(h5 job hj).1, (h5 job hj).2.1, (h5 job hj).2.2, h6 job hj⟩⟩

/-- Another slot rewritten leaves a slot sound. -/
theorem ProfileMemory.Sound.rewrite {m : ProfileMemory} {j : SlotId} (h : m.Sound j) {i : SlotId}
    (hji : j ≠ i) (x : Slot) (b : Bool) : ((m.setSlot i x).setValid i b).Sound j := by
  obtain ⟨hv, hf⟩ := h
  refine ⟨?_, ?_⟩
  · rw [ProfileMemory.slot_setValid, ProfileMemory.slot_setSlot_of, if_neg hji]; exact hv
  · rw [ProfileMemory.valid_setValid_of, if_neg hji, ProfileMemory.valid_setSlot]; exact hf

/-- Rewriting a slot leaves what is current. -/
theorem ProfileMemory.rewrite_current (m : ProfileMemory) (i : SlotId) (x : Slot) (b : Bool) :
    ((m.setSlot i x).setValid i b).currentSlot = m.currentSlot ∧
      ((m.setSlot i x).setValid i b).currentGeneration = m.currentGeneration := by
  cases i <;> exact ⟨rfl, rfl⟩

/-- A slot that is not current is rewritten: the law of what is current stands. -/
theorem ProfileMemory.Lawful.current_rewrite {m : ProfileMemory} (h : m.Lawful) {i : SlotId}
    (hi : m.currentSlot ≠ some i) (x : Slot) (b : Bool) (j : SlotId)
    (hj : ((m.setSlot i x).setValid i b).currentSlot = some j) :
    ((m.setSlot i x).setValid i b).Sound j ∧
      (((m.setSlot i x).setValid i b).slot j).generation =
        ((m.setSlot i x).setValid i b).currentGeneration := by
  rw [(m.rewrite_current i x b).1] at hj
  have hji : j ≠ i := fun e => hi (by rw [hj, e])
  obtain ⟨hsound, hgen⟩ := h.current j hj
  refine ⟨hsound.rewrite hji x b, ?_⟩
  rw [(m.rewrite_current i x b).2, ProfileMemory.slot_setValid, ProfileMemory.slot_setSlot_of,
    if_neg hji]
  exact hgen

/-- Of the tables, only an accepted COMMIT changes Profile Memory. -/
theorem tabled_pm {h : HostId} {s t : State} (ht : Tabled h s t) :
    t.pm = s.pm ∨ t = s.takeCommit h ∧ s.pm.currentGeneration ≠ lastGeneration := by
  cases ht
  case opened period mode attention =>
    left
    unfold State.takeOpen State.freeLock
    dsimp only
    split
    · rfl
    · split
      · split <;> rfl
      · rfl
    · rfl
  case closed ho =>
    left
    unfold State.endSession State.freeLock
    split <;> rfl
  case committed hw hg => exact .inr ⟨rfl, hg⟩
  all_goals exact .inl rfl

/-- The target of a COMMIT is not the current slot. -/
theorem ProfileMemory.Lawful.target_not_current {m : ProfileMemory} (h : m.Lawful) :
    m.currentSlot ≠ some m.target := by
  unfold ProfileMemory.target
  split
  next hzero => rw [h.none_iff.2 hzero]; simp
  next hgen =>
    cases hc : m.currentSlot with
    | none => exact absurd (h.none_iff.1 hc) hgen
    | some i => simpa using Ne.symm (SlotId.other_ne i)

/-- A COMMIT accepted (R201). -/
theorem lawful_takeCommit {s : State} (h : s.pm.Lawful) (g : HostId)
    (hg : s.pm.currentGeneration ≠ lastGeneration) : (s.takeCommit g).pm.Lawful := by
  have hcur := s.pm.rewrite_current s.pm.target Slot.erased false
  refine ⟨?_, ?_, fun j hj => ?_, fun i hi => by simp [State.takeCommit] at hi, fun job hj => ?_,
    fun job hj => ?_⟩
  · exact (by rw [hcur.1]; exact h.none_iff.trans (by rw [hcur.2]) :
      ((s.pm.setSlot s.pm.target Slot.erased).setValid s.pm.target false).currentSlot = none ↔
        ((s.pm.setSlot s.pm.target Slot.erased).setValid s.pm.target false).currentGeneration = 0)
  · exact hcur.2.symm ▸ h.notEmpty
  · exact h.current_rewrite h.target_not_current Slot.erased false j hj
  · obtain rfl : job = ⟨s.pm.target, s.pm.currentGeneration + 1, s.config, g, 0⟩ := by
      simpa [State.takeCommit] using hj.symm
    refine ⟨?_, ?_, ?_⟩
    · exact (ProfileMemory.slot_setValid _ _ _ _).trans (ProfileMemory.slot_setSlot _ _ _)
    · exact ProfileMemory.valid_setValid _ _ _
    · exact hcur.1.symm ▸ h.target_not_current
  · obtain rfl : job = ⟨s.pm.target, s.pm.currentGeneration + 1, s.config, g, 0⟩ := by
      simpa [State.takeCommit] using hj.symm
    exact ⟨congrArg (· + 1) hcur.2.symm, hcur.2.symm ▸ hg⟩

/-- The generation after one that a COMMIT may find current is neither empty nor 0. -/
theorem next_generation_valid {g : BitVec 32} (hempty : g ≠ emptyGeneration) (hlast : g ≠ lastGeneration) :
    g + 1 ≠ 0 ∧ g + 1 ≠ emptyGeneration := by
  unfold emptyGeneration at hempty ⊢
  unfold lastGeneration at hlast
  exact ⟨fun e => hempty (by bv_omega), fun e => hlast (by bv_omega)⟩

/-- The commit ends, verified or not (R202). -/
theorem lawful_endCommit {s : State} (h : s.pm.Lawful) {job : CommitJob}
    (hj : s.pm.store = .writing job) (verified : Bool) : (s.endCommit job verified).pm.Lawful := by
  obtain ⟨-, -, hne⟩ := h.target job hj
  obtain ⟨hgen, hlast⟩ := h.generation job hj
  obtain ⟨hzero, hempty⟩ := next_generation_valid h.notEmpty hlast
  rw [← hgen] at hzero hempty
  cases verified with
  | true =>
    refine ⟨by simpa [State.endCommit, State.reportCommit, State.deliver] using hzero, hempty,
      fun i hi => ?_, (fun _ h => nomatch h), (fun _ h => nomatch h), (fun _ h => nomatch h)⟩
    obtain rfl : job.target = i := by
      simpa [State.endCommit, State.reportCommit, State.deliver] using hi
    let slot : Slot := ⟨job.generation, some job.snapshot,
      Config.profileCheck job.generation job.snapshot⟩
    have hslot : ((s.pm.setSlot job.target slot).setValid job.target true).slot job.target = slot := by
      rw [ProfileMemory.slot_setValid, ProfileMemory.slot_setSlot]
    have hvalid : slot.isValid = true := by
      simpa [Slot.isValid, slot, hempty] using hzero
    exact ⟨⟨(congrArg Slot.isValid hslot).trans hvalid, ProfileMemory.valid_setValid _ _ _⟩,
      congrArg Slot.generation hslot⟩
  | false =>
    have hcur := s.pm.rewrite_current job.target Slot.erased false
    refine ⟨?_, hcur.2.symm ▸ h.notEmpty, fun j hj => h.current_rewrite hne Slot.erased false j hj,
      (fun _ h => nomatch h), (fun _ h => nomatch h), (fun _ h => nomatch h)⟩
    exact (by rw [hcur.1]; exact h.none_iff.trans (by rw [hcur.2]) :
      ((s.pm.setSlot job.target Slot.erased).setValid job.target false).currentSlot = none ↔
        ((s.pm.setSlot job.target Slot.erased).setValid job.target false).currentGeneration = 0)

theorem lawful_inReset (slot0 slot1 : Slot) (cause : ResetCause) :
    (ProfileMemory.inReset slot0 slot1 cause).Lawful :=
  ⟨by simp [ProfileMemory.inReset], (by decide : (0 : BitVec 32) ≠ emptyGeneration), (fun _ h => nomatch h), (fun _ h => nomatch h),
    (fun _ h => nomatch h), (fun _ h => nomatch h)⟩

/-- The slot chosen for the load is a valid one (R199). -/
theorem chooseSlot_isValid {slot0 slot1 : Slot} :
    (chooseSlot slot0 slot1 = some .slot0 → slot0.isValid = true) ∧
      (chooseSlot slot0 slot1 = some .slot1 → slot1.isValid = true) := by
  unfold chooseSlot
  split
  next h0 h1 => exact ⟨fun _ => h0, nofun⟩
  next h0 h1 => exact ⟨nofun, fun _ => h1⟩
  next h0 h1 => exact ⟨fun _ => h0, fun _ => h1⟩
  next h0 h1 => exact ⟨nofun, nofun⟩

theorem lawful_beginLoad {s : State} (h : s.pm.Lawful) : s.beginLoad.pm.Lawful := by
  refine ⟨h.none_iff, h.notEmpty, fun i hi => ?_, fun i hi => ?_, (fun _ h => nomatch h),
    (fun _ h => nomatch h)⟩
  · obtain ⟨⟨hvalid, -⟩, hgen⟩ := h.current i hi
    cases i <;> exact ⟨⟨hvalid, hvalid⟩, hgen⟩
  · have hc : chooseSlot s.pm.slot0 s.pm.slot1 = some i := by simpa [State.beginLoad] using hi
    cases i
    · exact ⟨chooseSlot_isValid.1 hc, chooseSlot_isValid.1 hc⟩
    · exact ⟨chooseSlot_isValid.2 hc, chooseSlot_isValid.2 hc⟩

/-- A valid slot's generation is neither empty nor 0 (R198). -/
theorem Slot.generation_of_isValid {x : Slot} (h : x.isValid = true) :
    x.generation ≠ 0 ∧ x.generation ≠ emptyGeneration := by
  unfold Slot.isValid at h
  split at h
  · simp only [Bool.and_eq_true, decide_eq_true_eq, ne_eq, decide_not, Bool.not_eq_true',
      decide_eq_false_iff_not] at h
    exact ⟨h.1.2, h.2⟩
  · cases h

theorem completeLoad_pm (s : State) (choice : Option SlotId) : (s.completeLoad choice).pm =
    { s.pm with
      store := .idle, currentGeneration := s.loadedGeneration choice, currentSlot := choice
      loadedGeneration := s.loadedGeneration choice } :=
  ((moves_recompute _).trans (moves_settle s _)).kept.pm

theorem lawful_completeLoad {s : State} (h : s.pm.Lawful) {choice : Option SlotId}
    (hc : s.pm.store = .loading (.chosen choice)) : (s.completeLoad choice).pm.Lawful := by
  rw [completeLoad_pm]
  cases choice with
  | none =>
    exact ⟨by simp [State.loadedGeneration], by simp [State.loadedGeneration]; decide,
      (fun _ h => nomatch h), (fun _ h => nomatch h), (fun _ h => nomatch h), (fun _ h => nomatch h)⟩
  | some i =>
    have hsound := h.chosen i hc
    obtain ⟨hzero, hempty⟩ := Slot.generation_of_isValid hsound.1
    refine ⟨by simpa [State.loadedGeneration] using hzero, hempty, fun j hj => ?_,
      (fun _ h => nomatch h), (fun _ h => nomatch h), (fun _ h => nomatch h)⟩
    obtain rfl : i = j := by simpa using hj
    cases i <;> exact ⟨hsound, rfl⟩

theorem lapse_pm (s : State) (h : HostId) : (s.takeLapse h).pm = s.pm := by
  have ended : (s.endSession h .lapsed).pm = s.pm := by
    unfold State.endSession State.freeLock
    split <;> rfl
  unfold State.takeLapse
  dsimp only
  split
  · exact ended
  · rw [((moves_dropSilently _ _).trans (moves_settle _ _)).kept.pm]
    exact ended

theorem lawful_does {s t : State} (hs : s.pm.Lawful) (ht : Does s t) : t.pm.Lawful := by
  cases ht with
  | nothing => exact hs
  | portOnly h p hp hq => exact hs
  | served h p u hl hu hp =>
    obtain ⟨v, hv, hm⟩ := served_tabled hu
    rw [State.setPort_pm, hm.kept.pm]
    rcases tabled_pm hv with hpm | ⟨rfl, hg⟩
    · rw [hpm]; exact hs
    · exact lawful_takeCommit (s := s.setPort h _) hs h hg
  | reset cause => exact lawful_inReset _ _ cause
  | loadBegun hb => exact lawful_beginLoad hs
  | loaded choice hc => exact lawful_completeLoad hs hc
  | commitEnded job verified hj hage => exact lawful_endCommit hs hj verified
  | lapsed h hl ho hx => rw [lapse_pm]; exact hs
  | own t hl ht => rw [(own_drifts ht).pm]; exact hs

theorem lawful_passTime {s : State} (hs : s.pm.Lawful) : s.passTime.pm.Lawful := by
  unfold State.passTime
  split
  · exact hs
  · refine ⟨hs.none_iff, hs.notEmpty, hs.current, fun i hi => hs.chosen i ?_, fun job hj => ?_,
      fun job hj => ?_⟩
    · dsimp only at hi
      cases hx : s.pm.store <;> simp [hx, StoreState.tick] at hi ⊢
      exact hi
    all_goals
      dsimp only at hj
      cases hx : s.pm.store <;> simp [hx, StoreState.tick] at hj
      subst hj
    · exact (hs.target _ hx :)
    · exact (hs.generation _ hx :)

/-- Settles O59: a COMMIT rewrites the slot that is not current, its completion makes that slot the current one
with the next generation, and a load takes a slot found valid. -/
theorem profileLawIsKept : Obligations.ProfileLawIsKept := by
  intro s t hs hstep
  rw [profileLaw_iff] at hs ⊢
  exact step_keeps_of_does (P := fun s => s.pm.Lawful) (fun _ _ hs => hs) (fun _ _ hs => hs)
    (fun _ _ => lawful_does) (fun _ => lawful_passTime) hs hstep

end Sys2Proof.Machine
end

section
/-! PROOFS. The law of the claims (R1, R2), kept by every step. -/

namespace Sys2Proof.Machine

/-- A claim that may stand: what the law of the claims asks of the record `x` of host `h` on channel `c`. -/
structure ClaimStands (s : State) (c : Chan) (h : HostId) (x : Claim) : Prop where
  notRetired : (s.cfg c).admin ≠ .retired
  policy : (s.cfg c).policy = .any ∨ (s.cfg c).policy = .all
  admitted : (s.cfg c).claimants.getLsbD h.val = true
  mapped : ∃ l, (s.viewEntry h l).physical = some c
  priority : x.priority ≤ 7
  session : (s.port h).session = (match x.state with | .active => .opened | .orphaned => .lapsed)

theorem claimLaw_iff (s : State) :
    ClaimLaw s ↔ ∀ c h x, s.claimOf c h = some x → ClaimStands s c h x := by
  constructor
  · intro hs c h x hx
    obtain ⟨h1, h2, h3, h4, h5, h6⟩ := hs c h x hx
    exact ⟨h1, h2, h3, h4, h5, h6⟩
  · intro hs c h x hx
    obtain ⟨h1, h2, h3, h4, h5, h6⟩ := hs c h x hx
    exact ⟨h1, h2, h3, h4, h5, h6⟩

/-- The fields of a channel record that the law of the claims looks at. -/
structure SameClaimants (f g : ChannelConfig) : Prop where
  admin : g.admin = .retired → f.admin = .retired
  policy : g.policy = f.policy
  claimants : g.claimants = f.claimants

theorem SameClaimants.refl (f : ChannelConfig) : SameClaimants f f := ⟨id, rfl, rfl⟩

/-- Records may go; those that stay stand as they did. -/
theorem claimLaw_of_subset {s t : State} (hs : ClaimLaw s)
    (hcfg : ∀ c, SameClaimants (s.cfg c) (t.cfg c))
    (hview : ∀ h l, t.viewEntry h l = s.viewEntry h l)
    (hport : ∀ g, (t.port g).session = (s.port g).session)
    (hclaim : ∀ c h, t.claimOf c h = s.claimOf c h ∨ t.claimOf c h = none) : ClaimLaw t := by
  rw [claimLaw_iff] at hs ⊢
  intro c h x hx
  rcases hclaim c h with e | e
  · rw [e] at hx
    have hst := hs c h x hx
    obtain ⟨ha, hp, hc⟩ := hcfg c
    refine ⟨fun e => hst.notRetired (ha e), by rw [hp]; exact hst.policy,
      by rw [hc]; exact hst.admitted, ?_, hst.priority, (hport h).trans hst.session⟩
    simpa only [hview] using hst.mapped
  · rw [e] at hx
    cases hx

theorem claimLaw_of_drifts {s t : State} (hs : ClaimLaw s) (h : Drifts s t) : ClaimLaw t :=
  claimLaw_of_subset hs (fun c => by rw [h.cfg]; exact .refl _)
    (fun g l => by simp [State.viewEntry, h.config]) (fun g => by rw [h.port])
    fun c g => (h.claims c g).imp_right And.left

theorem claimLaw_removeClaims {s : State} (hs : ClaimLaw s) (named : Chan → HostId → Bool) :
    ClaimLaw (s.removeClaims named) := by
  have hclaim (c : Chan) (g : HostId) : (s.removeClaims named).claimOf c g = s.claimOf c g ∨
      (s.removeClaims named).claimOf c g = none := by
    rw [State.removeClaims_claimOf]
    split
    · exact .inr rfl
    · exact .inl rfl
  rw [State.removeClaims_frame] at hclaim ⊢
  generalize (s.removeClaims named).claims = claims at hclaim ⊢
  exact claimLaw_of_subset hs (fun _ => .refl _) (fun _ _ => rfl) (fun _ => rfl) hclaim

theorem claimLaw_of_same {s t : State} (hs : ClaimLaw s) (hconf : t.config = s.config)
    (hport : ∀ g, (t.port g).session = (s.port g).session) (hclaims : t.claims = s.claims) :
    ClaimLaw t :=
  claimLaw_of_subset hs (fun c => by simp [State.cfg, hconf, SameClaimants.refl])
    (fun g l => by simp [State.viewEntry, hconf]) hport
    fun c g => .inl (by simp [State.claimOf, hclaims])

theorem claimLaw_setPort {s : State} (hs : ClaimLaw s) (h : HostId) {p : Port}
    (hp : (s.port h).SameSession p) : ClaimLaw (s.setPort h p) := by
  refine claimLaw_of_same hs rfl (fun g => ?_) rfl
  rw [State.port_setPort_of]
  split
  next hg => rw [hg, hp.session]
  next => rfl

/-- A record rewritten in fields that the law does not look at. -/
theorem claimLaw_setCfg {s : State} (hs : ClaimLaw s) (c : Chan) {f : ChannelConfig}
    (hf : SameClaimants (s.cfg c) f) : ClaimLaw (s.setCfg c f) := by
  refine claimLaw_of_subset hs (fun k => ?_) (fun _ _ => rfl) (fun _ => rfl) fun _ _ => .inl rfl
  rw [State.cfg_setCfg_of]
  split
  next hk => rw [hk]; exact hf
  next => exact .refl _

/-! ### Session events -/

theorem endSession_claimOf (s : State) (h : HostId) (x : Session) (c : Chan) (g : HostId) :
    (s.endSession h x).claimOf c g = s.claimOf c g := by
  unfold State.endSession State.freeLock; split <;> rfl

theorem endSession_config (s : State) (h : HostId) (x : Session) :
    (s.endSession h x).config = s.config := by
  unfold State.endSession State.freeLock; split <;> rfl

/-- The session of `h` has ended and its claims are as the new session state asks; the others stand. -/
theorem claimLaw_endSession {s t : State} (hs : ClaimLaw s) (h : HostId) (x : Session)
    (hconf : t.config = s.config) (hport : ∀ g, t.port g = (s.endSession h x).port g)
    (hothers : ∀ c g, g ≠ h → t.claimOf c g = s.claimOf c g)
    (hown : ∀ c y, t.claimOf c h = some y → ∃ z, s.claimOf c h = some z ∧ y.priority = z.priority ∧
      x = (match y.state with | .active => .opened | .orphaned => .lapsed)) : ClaimLaw t := by
  rw [claimLaw_iff] at hs ⊢
  have hcfg (c : Chan) : t.cfg c = s.cfg c := by simp [State.cfg, hconf]
  have hview (g : HostId) (l : Chan) : t.viewEntry g l = s.viewEntry g l := by
    simp [State.viewEntry, hconf]
  intro c g y hy
  by_cases hg : g = h
  · subst hg
    obtain ⟨z, hz, hprio, hstate⟩ := hown c y hy
    have hst := hs c g z hz
    refine ⟨by rw [hcfg]; exact hst.notRetired, by rw [hcfg]; exact hst.policy,
      by rw [hcfg]; exact hst.admitted, by simpa only [hview] using hst.mapped,
      by rw [hprio]; exact hst.priority, ?_⟩
    rw [hport, endSession_port, if_pos rfl]
    exact hstate
  · rw [hothers c g hg] at hy
    have hst := hs c g y hy
    refine ⟨by rw [hcfg]; exact hst.notRetired, by rw [hcfg]; exact hst.policy,
      by rw [hcfg]; exact hst.admitted, by simpa only [hview] using hst.mapped, hst.priority, ?_⟩
    rw [hport, endSession_port, if_neg hg]
    exact hst.session

theorem endSession_removed_claimOf (s : State) (h : HostId) (x : Session) (c : Chan) (g : HostId) :
    ((s.endSession h x).removeClaims fun _ k => k = h).claimOf c g =
      if g = h then none else s.claimOf c g := by
  rw [State.removeClaims_claimOf, endSession_claimOf]
  simp

/-- The session ends and the host's claims go with it. -/
theorem claimLaw_endSession_removed {s : State} (hs : ClaimLaw s) (h : HostId) (x : Session) :
    ClaimLaw ((s.endSession h x).removeClaims fun _ g => g = h) := by
  refine claimLaw_endSession hs h x (endSession_config s h x) (fun _ => rfl) (fun c g hg => ?_)
    fun c y hy => ?_
  · rw [endSession_removed_claimOf, if_neg hg]
  · rw [endSession_removed_claimOf, if_pos rfl] at hy
    cases hy

theorem orphan_claimOf (s : State) (h : HostId) (c : Chan) (g : HostId) :
    (s.orphan h).claimOf c g =
      if g = h then (s.claimOf c g).map fun x => { x with state := .orphaned } else s.claimOf c g := by
  simp [State.orphan, State.claimOf]

theorem adopt_claimOf (s : State) (h : HostId) (c : Chan) (g : HostId) :
    (s.adopt h).claimOf c g =
      if g = h then (s.claimOf c g).map fun x => { x with state := .active } else s.claimOf c g := by
  simp [State.adopt, State.claimOf]

theorem claimLaw_takeLapse {s : State} (hs : ClaimLaw s) (h : HostId) : ClaimLaw (s.takeLapse h) := by
  unfold State.takeLapse
  dsimp only
  split
  · refine claimLaw_endSession hs h .lapsed (endSession_config s h _) (fun _ => rfl) (fun c g hg => ?_)
      fun c y hy => ?_
    · rw [orphan_claimOf, if_neg hg, endSession_claimOf]
    · rw [orphan_claimOf, if_pos rfl, endSession_claimOf, Option.map_eq_some_iff] at hy
      obtain ⟨z, hz, rfl⟩ := hy
      exact ⟨z, hz, rfl, rfl⟩
  · exact claimLaw_of_drifts (claimLaw_endSession_removed hs h .lapsed)
      ((moves_dropSilently _ _).trans (moves_settle _ _)).drifts

/-- A host whose session becomes OPEN: its claims are ACTIVE already, or it has none, or they are adopted. -/
theorem claimLaw_opened {s t : State} (hs : ClaimLaw s) (h : HostId) (hconf : t.config = s.config)
    (hport : ∀ g, g ≠ h → (t.port g).session = (s.port g).session) (hopen : (t.port h).session = .opened)
    (hothers : ∀ c g, g ≠ h → t.claimOf c g = s.claimOf c g)
    (hown : ∀ c y, t.claimOf c h = some y →
      y.state = .active ∧ ∃ z, s.claimOf c h = some z ∧ y.priority = z.priority) : ClaimLaw t := by
  rw [claimLaw_iff] at hs ⊢
  have hcfg (c : Chan) : t.cfg c = s.cfg c := by simp [State.cfg, hconf]
  have hview (g : HostId) (l : Chan) : t.viewEntry g l = s.viewEntry g l := by
    simp [State.viewEntry, hconf]
  intro c g y hy
  by_cases hg : g = h
  · subst hg
    obtain ⟨hactive, z, hz, hprio⟩ := hown c y hy
    have hst := hs c g z hz
    refine ⟨by rw [hcfg]; exact hst.notRetired, by rw [hcfg]; exact hst.policy,
      by rw [hcfg]; exact hst.admitted, by simpa only [hview] using hst.mapped,
      by rw [hprio]; exact hst.priority, ?_⟩
    rw [hopen, hactive]
  · rw [hothers c g hg] at hy
    have hst := hs c g y hy
    exact ⟨by rw [hcfg]; exact hst.notRetired, by rw [hcfg]; exact hst.policy,
      by rw [hcfg]; exact hst.admitted, by simpa only [hview] using hst.mapped, hst.priority,
      (hport g hg).trans hst.session⟩

/-- A claim of a host in session state `x` is ACTIVE in OPEN, and there is none in CLOSED. -/
theorem ClaimStands.active_of_opened {s : State} {c : Chan} {h : HostId} {y : Claim}
    (hy : ClaimStands s c h y) (ho : (s.port h).session ≠ .lapsed) :
    (s.port h).session = .opened ∧ y.state = .active := by
  have hsession := hy.session
  cases hx : y.state with
  | active => rw [hx] at hsession; exact ⟨hsession, rfl⟩
  | orphaned => rw [hx] at hsession; exact absurd hsession ho

theorem freeLock_claimOf (s : State) (h : HostId) (c : Chan) (g : HostId) :
    (s.freeLock h).claimOf c g = s.claimOf c g := by
  unfold State.freeLock; split <;> rfl

theorem freeLock_config (s : State) (h : HostId) : (s.freeLock h).config = s.config := by
  unfold State.freeLock; split <;> rfl

theorem claimLaw_takeOpen {s : State} (hs : ClaimLaw s) (h : HostId) (period : Nat) (mode : OrphanMode)
    (attention : Bool) : ClaimLaw (s.takeOpen h period mode attention).1 := by
  have hstands := (claimLaw_iff s).1 hs
  have port (g : HostId) (hg : g ≠ h) :
      ((s.openPort h period mode attention).port g).session = (s.port g).session := by
    rw [openPort_port, if_neg hg]
  have opened : ((s.openPort h period mode attention).port h).session = .opened := by
    rw [openPort_port, if_pos rfl]
  have active (hx : (s.port h).session ≠ .lapsed) (c : Chan) (y : Claim)
      (hy : s.claimOf c h = some y) :
      y.state = .active ∧ ∃ z, s.claimOf c h = some z ∧ y.priority = z.priority :=
    ⟨((hstands c h y hy).active_of_opened hx).2, y, hy, rfl⟩
  unfold State.takeOpen
  dsimp only
  split
  next hc => exact claimLaw_opened hs h rfl port opened (fun _ _ _ => rfl) (active (by simp [hc]))
  next ho =>
    have hx : (s.port h).session ≠ .lapsed := by simp [ho]
    split
    · refine claimLaw_opened hs h (freeLock_config _ h) (fun g hg => ?_) ?_ (fun c g _ => ?_)
        fun c y hy => ?_
      · rw [freeLock_port]; exact port g hg
      · rw [freeLock_port]; exact opened
      · rw [freeLock_claimOf]; rfl
      · rw [freeLock_claimOf] at hy; exact active hx c y hy
    · exact claimLaw_opened hs h rfl port opened (fun _ _ _ => rfl) (active hx)
  next hl =>
    refine claimLaw_opened hs h rfl port opened (fun c g hg => ?_) fun c y hy => ?_
    · rw [adopt_claimOf, if_neg hg]; rfl
    · rw [adopt_claimOf, if_pos rfl, Option.map_eq_some_iff] at hy
      obtain ⟨z, hz, rfl⟩ := hy
      exact ⟨rfl, z, hz, rfl⟩

/-! ### Commands that write a claim, a record or a view -/

theorem claimLaw_recordClaim {s : State} (hs : ClaimLaw s) {h : HostId} {l c : Chan} {priority : Nat}
    (tag : BitVec 16) (ho : (s.port h).session = .opened) (hv : (s.viewEntry h l).physical = some c)
    (ha : (s.cfg c).admin ≠ .retired) (hp : (s.cfg c).policy = .any ∨ (s.cfg c).policy = .all)
    (hadm : ChannelConfig.admits (s.cfg c) h = true) (h7 : priority ≤ 7) :
    ClaimLaw (s.recordClaim h c priority tag) := by
  rw [claimLaw_iff] at hs ⊢
  intro k g x hx
  rw [State.recordClaim, State.claimOf_setClaim] at hx
  split at hx
  next hkg =>
    obtain ⟨rfl, rfl⟩ := hkg
    cases hx
    exact ⟨ha, hp, hadm, ⟨l, hv⟩, h7, ho⟩
  next =>
    have hst := hs k g x hx
    exact ⟨hst.notRetired, hst.policy, hst.admitted, hst.mapped, hst.priority, hst.session⟩

/-- A mapping may change where no claim of the host rests on it (R145). -/
theorem claimLaw_setViewEntry {s : State} (hs : ClaimLaw s) {g : HostId} {l : Chan} {e : ViewEntry}
    (hp : s.claimPresent g l e.physical = false) : ClaimLaw (s.setViewEntry g l e) := by
  have view (h : HostId) (m : Chan) : (s.setViewEntry g l e).viewEntry h m =
      if h = g ∧ m = l then e else s.viewEntry h m := by
    by_cases hh : h = g
    · subst hh
      by_cases hm : m = l
      · subst hm; simp [State.setViewEntry, State.viewEntry]
      · simp [State.setViewEntry, State.viewEntry, look_put, hm]
    · simp [State.setViewEntry, State.viewEntry, look_put, hh]
  rw [claimLaw_iff] at hs ⊢
  intro c h x hx
  have hx' : s.claimOf c h = some x := hx
  have hst := hs c h x hx'
  refine ⟨hst.notRetired, hst.policy, hst.admitted, ?_, hst.priority, hst.session⟩
  obtain ⟨m, hm⟩ := hst.mapped
  refine ⟨m, ?_⟩
  rw [view]
  split
  next hhm =>
    obtain ⟨rfl, rfl⟩ := hhm
    unfold State.claimPresent at hp
    rw [hm] at hp
    simpa [hx'] using hp
  next => exact hm

/-- The claims that RETIRE and a policy change leave still stand (R19, R138). -/
theorem claimLaw_setCfg_removed {s : State} (hs : ClaimLaw s) (c : Chan) {f : ChannelConfig}
    (named : Chan → HostId → Bool)
    (hf : ∀ h x, s.claimOf c h = some x → named c h = false →
      f.admin ≠ .retired ∧ (f.policy = .any ∨ f.policy = .all) ∧ f.claimants.getLsbD h.val = true) :
    ClaimLaw ((s.setCfg c f).removeClaims named) := by
  rw [claimLaw_iff] at hs ⊢
  intro k h x hx
  rw [State.removeClaims_claimOf] at hx
  split at hx
  next => cases hx
  next hn =>
    have hst := hs k h x hx
    have cfg : ((s.setCfg c f).removeClaims named).cfg k = if k = c then f else s.cfg k :=
      State.cfg_setCfg_of s c k f
    by_cases hk : k = c
    · subst hk
      rw [if_pos rfl] at cfg
      obtain ⟨h1, h2, h3⟩ := hf h x hx (by simpa using hn)
      exact ⟨by rw [cfg]; exact h1, by rw [cfg]; exact h2, by rw [cfg]; exact h3, hst.mapped,
        hst.priority, hst.session⟩
    · rw [if_neg hk] at cfg
      exact ⟨by rw [cfg]; exact hst.notRetired, by rw [cfg]; exact hst.policy,
        by rw [cfg]; exact hst.admitted, hst.mapped, hst.priority, hst.session⟩

theorem powerOperands_sameClaimants {s : State} {ops : List Byte} {c : Chan} {f : ChannelConfig}
    (h : powerOperands s ops = some (c, f)) : SameClaimants (s.cfg c) f := by
  unfold powerOperands at h
  split at h
  · simp only [Option.bind_eq_bind, Option.bind_eq_some_iff, Option.some.injEq, Prod.mk.injEq] at h
    obtain ⟨_, -, _, -, _, -, _, -, _, -, _, -, _, -, _, -, rfl, rfl⟩ := h
    exact ⟨id, rfl, rfl⟩
  · cases h

theorem faultOperands_sameClaimants {s : State} {ops : List Byte} {c : Chan} {f : ChannelConfig}
    (h : faultOperands s ops = some (c, f)) : SameClaimants (s.cfg c) f := by
  unfold faultOperands at h
  split at h
  · simp only [Option.bind_eq_bind, Option.bind_eq_some_iff, Option.some.injEq, Prod.mk.injEq] at h
    obtain ⟨_, -, _, -, _, -, _, -, _, -, _, -, rfl, rfl⟩ := h
    exact ⟨id, rfl, rfl⟩
  · cases h

theorem policyOperands_admin {s : State} {ops : List Byte} {c : Chan} {f : ChannelConfig}
    (h : policyOperands s ops = some (c, f)) : f.admin = (s.cfg c).admin := by
  unfold policyOperands at h
  split at h
  · simp only [Option.bind_eq_bind, Option.bind_eq_some_iff, Option.some.injEq, Prod.mk.injEq] at h
    obtain ⟨_, -, _, -, _, -, _, -, _, -, _, -, rfl, rfl⟩ := h
    rfl
  · cases h

/-- A claim that a policy change does not drop is one that the new record admits (R138). -/
theorem admitted_of_not_dropped {s : State} (hs : ClaimLaw s) {c : Chan} {f : ChannelConfig} {h : HostId}
    {x : Claim} (hx : s.claimOf c h = some x) (hf : f.admin = (s.cfg c).admin)
    (hn : s.droppedByPolicy c f c h = false) :
    f.admin ≠ .retired ∧ (f.policy = .any ∨ f.policy = .all) ∧ f.claimants.getLsbD h.val = true := by
  have hst := (claimLaw_iff s).1 hs c h x hx
  have hadm : ChannelConfig.admits (s.cfg c) h = true := hst.admitted
  unfold State.droppedByPolicy at hn
  refine ⟨by rw [hf]; exact hst.notRetired, ?_⟩
  cases hp : f.policy <;> simp [hp, hadm] at hn ⊢ <;> exact hn

theorem claimLaw_tabled {h : HostId} {s t : State} (hs : ClaimLaw s) (ht : Tabled h s t) :
    ClaimLaw t := by
  cases ht
  case opened period mode attention => exact claimLaw_takeOpen hs h period mode attention
  case closed ho => exact claimLaw_endSession_removed hs h .closed
  case claimsRemoved named => exact claimLaw_removeClaims hs named
  case claimed l c priority tag ho hv ha hp hadm h7 =>
    exact claimLaw_recordClaim hs tag ho hv ha hp hadm h7
  case adminSet c x hx => exact claimLaw_setCfg hs c ⟨fun e => absurd e hx, rfl, rfl⟩
  case retired c hch =>
    exact claimLaw_setCfg_removed hs c _ fun g x hx hn => by simp at hn
  case powerSet ops c f hf => exact claimLaw_setCfg hs c (powerOperands_sameClaimants hf)
  case policySet ops c f hf hp =>
    exact claimLaw_setCfg_removed hs c _ fun g x hx hn =>
      admitted_of_not_dropped hs hx (policyOperands_admin hf) hn
  case faultSet ops c f hf => exact claimLaw_setCfg hs c (faultOperands_sameClaimants hf)
  case viewSet g l e hp hd => exact claimLaw_setViewEntry hs hp
  case railSet r x =>
    exact claimLaw_of_subset hs (fun _ => .refl _) (fun _ _ => rfl) (fun _ => rfl) fun _ _ => .inl rfl
  all_goals exact claimLaw_of_same hs rfl (fun _ => rfl) rfl

theorem claimLaw_of_no_claims {s : State} (h : ∀ c g, s.claimOf c g = none) : ClaimLaw s := by
  intro c g x hx
  rw [h] at hx
  cases hx

/-- While Profile Memory loads no claim stands. -/
theorem LoadingLaw.claimOf {s : State} (hs : LoadingLaw s) (hl : s.isLoading = true) (c : Chan)
    (g : HostId) : s.claimOf c g = none := by
  rw [(hs hl).1]
  simp [State.claimOf, State.reset]

theorem claimLaw_does {s t : State} (hload : LoadingLaw s) (hs : ClaimLaw s) (ht : Does s t) :
    ClaimLaw t := by
  cases ht with
  | nothing => exact hs
  | portOnly h p hp hq => exact claimLaw_setPort hs h hp
  | served h p u hl hu hp =>
    obtain ⟨v, hv, hm⟩ := served_tabled hu
    have hrenewed := claimLaw_setPort hs h (Port.sameSession_renewed _)
    exact claimLaw_setPort (claimLaw_of_drifts (claimLaw_tabled hrenewed hv) hm.drifts) h hp
  | reset cause => exact claimLaw_of_no_claims fun c g => by simp [State.afterReset, State.claimOf, State.reset]
  | loadBegun hb => exact hs
  | loaded choice hc =>
    refine claimLaw_of_no_claims fun c g => ?_
    rw [State.completeLoad, ((moves_recompute _).trans (moves_settle s _)).claimOf]
    exact hload.claimOf (isLoading_of_loading hc) c g
  | commitEnded job verified hj hage =>
    unfold State.endCommit
    split <;> exact claimLaw_of_same hs rfl (fun _ => rfl) rfl
  | lapsed h hl ho hx => exact claimLaw_takeLapse hs h
  | own t hl ht => exact claimLaw_of_drifts hs (own_drifts ht)

/-- A law kept under the law of the load is kept by every step. -/
theorem step_keeps_of_loading {P : State → Prop} (hp : ∀ s l, P s → P { s with pending := l })
    (hd : ∀ s n, P s → P { s with draws := n })
    (he : ∀ s t, LoadingLaw s → P s → Does s t → P t) (ht : ∀ s, P s → P s.passTime)
    {s t : State} (hload : LoadingLaw s) (hs : P s) (h : step s = .next t) : P t := by
  rcases step_cases h with ⟨c, rest, -, e⟩ | ⟨-, c, -, n, e⟩ | ⟨-, -, rfl⟩
  · refine he _ t (fun hl => ?_) (hp s rest hs) (exec_does e)
    obtain ⟨hstate, hports⟩ := hload hl
    exact ⟨congrArg (fun x : State => { x with pending := rest }) hstate, hports⟩
  · refine he _ t (fun hl => ?_) (hd s n hs) (exec_does e)
    obtain ⟨hstate, hports⟩ := hload hl
    exact ⟨congrArg (fun x : State => { x with draws := n }) hstate, hports⟩
  · exact ht s hs

/-- Settles O54: CLAIM checks what the law asks, records that change drop the claims they no longer let stand,
and each session event turns the host's claims to the state its session then asks. -/
theorem claimLawIsKept : Obligations.ClaimLawIsKept := by
  intro s t hload hs hstep
  refine step_keeps_of_loading (P := ClaimLaw) (fun _ _ hs => hs) (fun _ _ hs => hs)
    (fun _ _ => claimLaw_does) (fun s hs => ?_) hload hs hstep
  refine claimLaw_of_same hs (by rw [passTime_frame]) (fun g => ?_) (by rw [passTime_frame])
  exact (passTime_sameSession s g).session

end Sys2Proof.Machine
end

section
/-! PROOFS. The forest of the parent links (R77): the channels above and below a channel, depth and height. -/

namespace Sys2Proof.Machine

/-! ### The largest of a list -/

theorem foldl_max_eq (l : List Nat) (a : Nat) : l.foldl max a = max a (largest l) := by
  induction l generalizing a with
  | nil => simp [largest]
  | cons x xs ih =>
    rw [List.foldl_cons, ih, show largest (x :: xs) = xs.foldl max (max 0 x) from rfl, ih]
    omega

theorem largest_cons (x : Nat) (l : List Nat) : largest (x :: l) = max x (largest l) := by
  rw [largest, List.foldl_cons, foldl_max_eq]
  omega

theorem le_largest {l : List Nat} {x : Nat} (h : x ∈ l) : x ≤ largest l := by
  induction l with
  | nil => cases h
  | cons y ys ih =>
    rw [largest_cons]
    rcases List.mem_cons.1 h with rfl | h
    · omega
    · have := ih h; omega

theorem largest_mem_or_zero (l : List Nat) : largest l ∈ l ∨ largest l = 0 := by
  induction l with
  | nil => exact .inr rfl
  | cons y ys ih =>
    rw [largest_cons]
    rcases Nat.le_total (largest ys) y with h | h
    · exact .inl (by rw [Nat.max_eq_left h]; exact .head _)
    · rw [Nat.max_eq_right h]
      exact ih.imp (List.mem_cons_of_mem y) id

theorem largest_le {l : List Nat} {n : Nat} (h : ∀ x ∈ l, x ≤ n) : largest l ≤ n := by
  rcases largest_mem_or_zero l with hm | hz
  · exact h _ hm
  · omega

/-! ### Chains of parents -/

@[simp] theorem above_zero (s : State) (k : Chan) : s.above 0 k = some k := rfl

theorem above_succ (s : State) (n : Nat) (k : Chan) :
    s.above (n + 1) k = (s.cfg k).parent.bind (s.above n) := by
  cases h : (s.cfg k).parent <;> simp [State.above, h]

theorem above_succ_of_parent {s : State} {k p : Chan} (h : (s.cfg k).parent = some p) (n : Nat) :
    s.above (n + 1) k = s.above n p := by
  rw [above_succ, h, Option.bind_some]

/-- The last link of a chain. -/
theorem above_succ' (s : State) (n : Nat) (k : Chan) :
    s.above (n + 1) k = (s.above n k).bind fun c => (s.cfg c).parent := by
  induction n generalizing k with
  | zero => rw [above_succ]; cases h : (s.cfg k).parent <;> simp [h]
  | succ n ih =>
    rw [above_succ, above_succ s n k]
    cases h : (s.cfg k).parent with
    | none => rfl
    | some p => simpa using ih p

theorem above_isSome_of_le {s : State} {k : Chan} {m n : Nat} (hmn : m ≤ n)
    (h : s.above n k ≠ none) : s.above m k ≠ none := by
  induction n with
  | zero => rwa [Nat.le_zero.1 hmn]
  | succ n ih =>
    rcases Nat.lt_or_ge n m with hlt | hle
    · rwa [Nat.le_antisymm hmn hlt]
    · refine ih hle fun e => h ?_
      rw [above_succ', e]
      rfl

theorem mem_ancestors (s : State) (n : Nat) (k c : Chan) :
    c ∈ s.ancestors n k ↔ ∃ m < n, s.above (m + 1) k = some c := by
  induction n generalizing k with
  | zero => simp [State.ancestors]
  | succ n ih =>
    unfold State.ancestors
    cases h : (s.cfg k).parent with
    | none => simp [above_succ, h]
    | some p =>
      simp only [List.mem_cons, ih, above_succ_of_parent h]
      constructor
      · rintro (rfl | ⟨m, hm, hc⟩)
        · exact ⟨0, by omega, rfl⟩
        · exact ⟨m + 1, by omega, hc⟩
      · rintro ⟨m, hm, hc⟩
        cases m with
        | zero => exact .inl (by simpa using hc.symm)
        | succ m => exact .inr ⟨m, by omega, hc⟩

/-- The chain of ancestors ends where there is no further link. -/
theorem above_ancestors_length (s : State) (n : Nat) (k : Chan) :
    s.above (s.ancestors n k).length k ≠ none := by
  induction n generalizing k with
  | zero => simp [State.ancestors]
  | succ n ih =>
    unfold State.ancestors
    cases h : (s.cfg k).parent with
    | none => simp
    | some p => simpa [above_succ_of_parent h] using ih p

theorem le_ancestors_length {s : State} {m n : Nat} {k : Chan} (hm : m ≤ n) (h : s.above m k ≠ none) :
    m ≤ (s.ancestors n k).length := by
  induction n generalizing k m with
  | zero => omega
  | succ n ih =>
    unfold State.ancestors
    cases m with
    | zero => omega
    | succ m =>
      cases hp : (s.cfg k).parent with
      | none => rw [above_succ, hp] at h; exact absurd rfl h
      | some p =>
        rw [above_succ_of_parent hp] at h
        have := ih (Nat.le_of_succ_le_succ hm) h
        simpa using this

/-- A channel `m` levels below `c` shows in the height of `c`. -/
theorem le_height {s : State} {m n : Nat} {k c : Chan} (hm : m ≤ n) (h : s.above m k = some c) :
    m ≤ s.height n c := by
  induction n generalizing c m with
  | zero => omega
  | succ n ih =>
    cases m with
    | zero => omega
    | succ m =>
      rw [above_succ', Option.bind_eq_some_iff] at h
      obtain ⟨j, hj, hc⟩ := h
      have hle := ih (Nat.le_of_succ_le_succ hm) hj
      have hmem : s.height n j + 1 ∈ (s.children c).map fun k => s.height n k + 1 :=
        List.mem_map.2 ⟨j, (s.mem_children c j).2 hc, rfl⟩
      have := le_largest hmem
      unfold State.height
      omega

/-- The height of `c` is that of some channel below it. -/
theorem exists_above_height (s : State) (n : Nat) (c : Chan) :
    ∃ k, s.above (s.height n c) k = some c := by
  induction n generalizing c with
  | zero => exact ⟨c, rfl⟩
  | succ n ih =>
    unfold State.height
    rcases largest_mem_or_zero ((s.children c).map fun k => s.height n k + 1) with hm | hz
    · obtain ⟨j, hj, he⟩ := List.mem_map.1 hm
      rw [← he]
      obtain ⟨k, hk⟩ := ih j
      refine ⟨k, ?_⟩
      rw [above_succ', hk]
      exact (s.mem_children c j).1 hj
    · rw [hz]
      exact ⟨c, rfl⟩

/-! ### A forest -/

/-- A depth of every channel, as the law of the forest asks for one. -/
structure IsDepth (s : State) (depth : Chan → Nat) : Prop where
  root : ∀ c, (s.cfg c).parent = none → depth c = 1
  link : ∀ c p, (s.cfg c).parent = some p →
    depth c = depth p + 1 ∧ depth c ≤ 4 ∧ (s.cfg p).admin ≠ .retired

theorem forestLaw_iff (s : State) : ForestLaw s.config ↔ ∃ depth, IsDepth s depth := by
  constructor
  · rintro ⟨depth, h⟩
    refine ⟨depth, fun c hc => ?_, fun c p hc => ?_⟩
    all_goals
      have := h c
      rw [show (look s.config.channels c).parent = _ from hc] at this
      exact this
  · rintro ⟨depth, h⟩
    refine ⟨depth, fun c => ?_⟩
    cases hc : (look s.config.channels c).parent with
    | none => exact h.root c hc
    | some p => exact h.link c p hc

section Depth

variable {s : State} {depth : Chan → Nat} (hd : IsDepth s depth)
include hd

theorem IsDepth.pos (c : Chan) : 1 ≤ depth c := by
  cases h : (s.cfg c).parent with
  | none => rw [hd.root c h]
  | some p => have := hd.link c p h; omega

theorem IsDepth.le_four (c : Chan) : depth c ≤ 4 := by
  cases h : (s.cfg c).parent with
  | none => rw [hd.root c h]; omega
  | some p => exact (hd.link c p h).2.1

theorem IsDepth.above {n : Nat} {k c : Chan} (h : s.above n k = some c) : depth k = depth c + n := by
  induction n generalizing k with
  | zero => cases h; rfl
  | succ n ih =>
    cases hp : (s.cfg k).parent with
    | none => rw [above_succ, hp] at h; cases h
    | some p =>
      rw [above_succ_of_parent hp] at h
      have := ih h
      have := (hd.link k p hp).1
      omega

/-- A chain ends within the depth. -/
theorem IsDepth.lt_of_above {n : Nat} {k : Chan} (h : s.above n k ≠ none) : n < depth k := by
  obtain ⟨c, hc⟩ := Option.ne_none_iff_exists'.1 h
  have := hd.above hc
  have := hd.pos c
  omega

/-- The number of links above a channel is its depth less one. -/
theorem IsDepth.above_depth (k : Chan) : s.above (depth k - 1) k ≠ none := by
  have key : ∀ n k, depth k = n + 1 → s.above n k ≠ none := by
    intro n
    induction n with
    | zero => simp
    | succ n ih =>
      intro k hk
      cases hp : (s.cfg k).parent with
      | none => have := hd.root k hp; omega
      | some p =>
        rw [above_succ_of_parent hp]
        exact ih p (by have := (hd.link k p hp).1; omega)
  have := hd.pos k
  exact key _ k (by omega)

/-- The model's depth is the depth. -/
theorem IsDepth.depth_eq (k : Chan) : s.depth k = depth k := by
  have h1 := hd.lt_of_above (above_ancestors_length s treeDepth k)
  have h4 := hd.le_four k
  have h2 := le_ancestors_length (n := treeDepth) (show depth k - 1 ≤ 16 by omega) (hd.above_depth k)
  have := hd.pos k
  unfold State.depth
  omega

/-- No channel is its own ancestor. -/
theorem IsDepth.not_above_self {n : Nat} {c : Chan} : s.above (n + 1) c ≠ some c := fun h => by
  have := hd.above h
  omega

end Depth

/-- A channel with a retired record has no children. -/
theorem children_eq_nil_of_retired {s : State} (hf : ForestLaw s.config) {c : Chan}
    (h : (s.cfg c).admin = .retired) : s.children c = [] := by
  obtain ⟨depth, hd⟩ := (forestLaw_iff s).1 hf
  refine List.eq_nil_iff_forall_not_mem.2 fun k hk => ?_
  exact (hd.link k c ((s.mem_children c k).1 hk)).2.2 h

/-! ### A new parent -/

/-- The records of two states differ in the record of `c` at most. -/
theorem forest_setCfg {s : State} {c : Chan} {f : ChannelConfig} (hf : ForestLaw s.config)
    (hparent : f.parent = (s.cfg c).parent)
    (hadmin : f.admin = .retired → (s.cfg c).admin = .retired ∨ s.children c = []) :
    ForestLaw (s.setCfg c f).config := by
  rw [forestLaw_iff] at hf ⊢
  obtain ⟨depth, hd⟩ := hf
  have parent (k : Chan) : ((s.setCfg c f).cfg k).parent = (s.cfg k).parent := by
    rw [State.cfg_setCfg_of]
    split
    next hk => rw [hk, hparent]
    next => rfl
  refine ⟨depth, fun k hk => hd.root k (by rwa [parent] at hk), fun k p hk => ?_⟩
  rw [parent] at hk
  obtain ⟨h1, h2, h3⟩ := hd.link k p hk
  refine ⟨h1, h2, ?_⟩
  rw [State.cfg_setCfg_of]
  split
  next hp =>
    subst hp
    intro hr
    rcases hadmin hr with ha | hch
    · exact h3 ha
    · have hmem := (s.mem_children p k).2 hk
      rw [hch] at hmem
      cases hmem
  next => exact h3

/-- Channel `k` is `c` or stands below it. -/
def State.Below (s : State) (c k : Chan) : Prop := ∃ n, s.above n k = some c

theorem below_parent {s : State} {c k p : Chan} (hk : (s.cfg k).parent = some p) (hne : k ≠ c) :
    s.Below c k ↔ s.Below c p := by
  constructor
  · rintro ⟨n, hn⟩
    cases n with
    | zero => exact absurd (by simpa using hn) hne
    | succ n => exact ⟨n, by rwa [above_succ_of_parent hk] at hn⟩
  · rintro ⟨n, hn⟩
    exact ⟨n + 1, by rwa [above_succ_of_parent hk]⟩

open Classical in
/-- The depths once the tree of `c` hangs at depth `base`. -/
noncomputable def rehung (s : State) (depth : Chan → Nat) (c : Chan) (base : Nat) (k : Chan) : Nat :=
  if s.Below c k then depth k - depth c + base else depth k

/-- The tree of `c` hung under a channel that is not in it and shallow enough, or made a tree of its own (R137). -/
theorem forest_setCfg_parent {s : State} {c : Chan} {f : ChannelConfig} (hf : ForestLaw s.config)
    (hadmin : f.admin = (s.cfg c).admin)
    (hp : ∀ p, f.parent = some p → (s.cfg p).admin ≠ .retired ∧ ¬ s.Below c p ∧
      s.depth p + 1 + s.height treeDepth c ≤ 4) :
    ForestLaw (s.setCfg c f).config := by
  obtain ⟨depth, hd⟩ := (forestLaw_iff s).1 hf
  obtain ⟨base, hbase1, hbase⟩ : ∃ base, (f.parent = none → base = 1) ∧
      ∀ p, f.parent = some p → base = depth p + 1 := by
    cases hx : f.parent with
    | none => exact ⟨1, by simp, by simp⟩
    | some p => exact ⟨depth p + 1, by simp, by simp⟩
  have self : s.Below c c := ⟨0, rfl⟩
  have admin (k : Chan) : ((s.setCfg c f).cfg k).admin = (s.cfg k).admin := by
    rw [State.cfg_setCfg_of]
    split
    next hk => rw [hk, hadmin]
    next => rfl
  have below_le {k : Chan} (hk : s.Below c k) : depth c ≤ depth k ∧
      depth k - depth c ≤ s.height treeDepth c := by
    obtain ⟨n, hn⟩ := hk
    have hk := hd.above hn
    have := hd.le_four k
    have := le_height (n := treeDepth) (show n ≤ 16 by omega) hn
    omega
  have inTree {k : Chan} (hk : s.Below c k) : rehung s depth c base k ≤ 4 := by
    have := below_le hk
    rw [rehung, if_pos hk]
    cases hx : f.parent with
    | none =>
      have := hbase1 hx
      have := hd.le_four k
      have := hd.pos c
      omega
    | some p =>
      have h3 := (hp p hx).2.2
      rw [hd.depth_eq] at h3
      have := hbase p hx
      omega
  rw [forestLaw_iff]
  refine ⟨rehung s depth c base, fun k hk => ?root, fun k p hk => ?link⟩
  case root =>
    rw [State.cfg_setCfg_of] at hk
    split at hk
    next hkc =>
      subst hkc
      rw [rehung, if_pos self, hbase1 hk]
      omega
    next hkc =>
      have hout : ¬ s.Below c k := by
        rintro ⟨n, hn⟩
        cases n with
        | zero => exact hkc (by simpa using hn)
        | succ n => rw [above_succ, hk] at hn; cases hn
      rw [rehung, if_neg hout]
      exact hd.root k hk
  case link =>
    rw [State.cfg_setCfg_of] at hk
    rw [admin]
    split at hk
    next hkc =>
      subst hkc
      obtain ⟨hret, hout, -⟩ := hp p hk
      refine ⟨?_, inTree self, hret⟩
      rw [rehung, rehung, if_pos self, if_neg hout, hbase p hk]
      omega
    next hkc =>
      obtain ⟨h1, h2, h3⟩ := hd.link k p hk
      by_cases hb : s.Below c k
      · have hbp := (below_parent hk hkc).1 hb
        refine ⟨?_, inTree hb, h3⟩
        have := below_le hbp
        rw [rehung, rehung, if_pos hb, if_pos hbp]
        omega
      · have hbp : ¬ s.Below c p := fun h => hb ((below_parent hk hkc).2 h)
        rw [rehung, rehung, if_neg hb, if_neg hbp]
        exact ⟨h1, h2, h3⟩

end Sys2Proof.Machine
end

section
/-! PROOFS. The law of the configurations (R77, R131, R143, R144): the live one, the slots' and the snapshot's. -/

namespace Sys2Proof.Machine

/-! ### Records in range -/

/-- The ranges and the cross-field conditions of a channel record (R131). -/
def InRange (f : ChannelConfig) : Prop :=
  f.claimants ≠ 0 ∧ f.floor ≤ 7 ∧ 1 ≤ f.classAU ∧ f.classAU ≤ 200 ∧
  f.classAU ≤ f.tripThreshold ∧ f.tripThreshold ≤ 250 ∧ f.tripFilter ≤ 15 ∧
  1 ≤ f.softStart ∧ f.softStart ≤ 255 ∧ f.blanking ≤ f.softStart ∧ f.dischargeTime ≤ 255 ∧
  1 ≤ f.deadTime ∧ f.deadTime ≤ 50 ∧ f.retryLimit ≤ 7 ∧ 1 ≤ f.backoffBase ∧ f.backoffBase ≤ 255 ∧
  f.detachThreshold ≤ 255 ∧ 1 ≤ f.detachTime ∧ f.detachTime ≤ 255

/-- The ranges of a rail record (R143). -/
def RailInRange (f : RailConfig) : Prop :=
  f.limit ≤ 1000 ∧ f.lossQual ≤ 15 ∧ 1 ≤ f.restoreQual ∧ f.restoreQual ≤ 255

/-- No view maps two entries to one channel (R144). -/
def InjectiveViews (x : Configuration) : Prop :=
  ∀ (h : HostId) (l m c : Chan), (look (look x.views h) l).physical = some c →
    (look (look x.views h) m).physical = some c → l = m

theorem recordLaw_iff (x : Configuration) : RecordLaw x ↔
    (∀ c : Chan, InRange (look x.channels c)) ∧ (∀ r, RailInRange (x.rails.of r)) ∧
      InjectiveViews x := Iff.rfl

theorem inRange_default : InRange ChannelConfig.default := by unfold InRange; decide

theorem configurationLaw_default : ConfigurationLaw Configuration.default := by
  refine ⟨(recordLaw_iff _).2 ⟨fun c => ?_, fun r => ?_, fun h l m c hl hm => ?_⟩,
    fun _ => 1, fun c => ?_⟩
  · simpa [Configuration.default] using inRange_default
  · cases r <;> (unfold RailInRange; decide)
  · simp [Configuration.default, defaultView] at hl hm
    rw [hl, hm]
  · simp [Configuration.default, ChannelConfig.default]

/-! ### Operands in range -/

theorem byte_le (b : Byte) : b.toNat ≤ 255 := by have := b.isLt; omega

theorem claimantsOperand_ne_zero {b : Byte} {x : BitVec 4} (h : claimantsOperand b = some x) : x ≠ 0 := by
  unfold claimantsOperand at h
  split at h
  next hr =>
    cases h
    intro e
    have e := congrArg BitVec.toNat e
    simp at e
    omega
  next => cases h

theorem powerOperands_inRange {s : State} {ops : List Byte} {c : Chan} {f : ChannelConfig}
    (h : powerOperands s ops = some (c, f)) (hc : InRange (s.cfg c)) :
    InRange f ∧ f.parent = (s.cfg c).parent ∧ f.admin = (s.cfg c).admin := by
  unfold powerOperands at h
  split at h
  next dis _ =>
    simp only [Option.bind_eq_bind, Option.bind_eq_some_iff, Option.some.injEq, Prod.mk.injEq,
      rangeOperand_eq_some] at h
    obtain ⟨c, -, cls, ⟨-, hcls⟩, thr, ⟨-, hthr⟩, flt, ⟨-, hflt⟩, feed, -, soft, ⟨-, hsoft⟩,
      blank, ⟨-, hblank⟩, dead, ⟨-, hdead⟩, rfl, rfl⟩ := h
    have := byte_le dis
    obtain ⟨hset, hrest⟩ := hc
    refine ⟨⟨hset, ?_⟩, rfl, rfl⟩
    dsimp only
    omega
  next => cases h

theorem policyOperands_inRange {s : State} {ops : List Byte} {c : Chan} {f : ChannelConfig}
    (h : policyOperands s ops = some (c, f)) (hc : InRange (s.cfg c)) : InRange f := by
  unfold policyOperands at h
  split at h
  · simp only [Option.bind_eq_bind, Option.bind_eq_some_iff, Option.some.injEq, Prod.mk.injEq,
      rangeOperand_eq_some] at h
    obtain ⟨c, -, pol, -, set, hset, line, -, floor, ⟨-, hfloor⟩, parent, -, rfl, rfl⟩ := h
    obtain ⟨-, -, hrest⟩ := hc
    exact ⟨claimantsOperand_ne_zero hset, hfloor.2, hrest⟩
  · cases h

theorem faultOperands_inRange {s : State} {ops : List Byte} {c : Chan} {f : ChannelConfig}
    (h : faultOperands s ops = some (c, f)) (hc : InRange (s.cfg c)) :
    InRange f ∧ f.parent = (s.cfg c).parent ∧ f.admin = (s.cfg c).admin := by
  unfold faultOperands at h
  split at h
  next thr _ _ =>
    simp only [Option.bind_eq_bind, Option.bind_eq_some_iff, Option.some.injEq, Prod.mk.injEq,
      rangeOperand_eq_some] at h
    obtain ⟨c, -, src, -, lim, ⟨-, hlim⟩, base, ⟨-, hbase⟩, time, ⟨-, htime⟩, act, -, rfl, rfl⟩ := h
    have := byte_le thr
    obtain ⟨hset, hrest⟩ := hc
    refine ⟨⟨hset, ?_⟩, rfl, rfl⟩
    dsimp only
    omega
  next => cases h

/-! ### The configuration after a write -/

theorem recordLaw_setCfg {s : State} (hs : RecordLaw s.config) (c : Chan) {f : ChannelConfig}
    (hf : InRange f) : RecordLaw (s.setCfg c f).config := by
  obtain ⟨hchan, hrail, hview⟩ := hs
  refine ⟨fun k => ?_, hrail, hview⟩
  have := s.cfg_setCfg_of c k f
  unfold State.cfg at this
  rw [this]
  split
  · exact hf
  · exact hchan k

theorem configurationLaw_setCfg {s : State} (hs : ConfigurationLaw s.config) {c : Chan}
    {f : ChannelConfig} (hf : InRange f) (hparent : f.parent = (s.cfg c).parent)
    (hadmin : f.admin = .retired → (s.cfg c).admin = .retired ∨ s.children c = []) :
    ConfigurationLaw (s.setCfg c f).config :=
  ⟨recordLaw_setCfg hs.1 c hf, forest_setCfg hs.2 hparent hadmin⟩

/-- The parent check of SET_CHANNEL_POLICY keeps the forest (R136, R137). -/
theorem forest_of_parentAllowed {s : State} (hf : ForestLaw s.config) {c : Chan} {f : ChannelConfig}
    (hadmin : f.admin = (s.cfg c).admin) (hp : s.parentAllowed c f.parent = true) :
    ForestLaw (s.setCfg c f).config := by
  obtain ⟨depth, hd⟩ := (forestLaw_iff s).1 hf
  unfold State.parentAllowed at hp
  split at hp
  next hsame => exact forest_setCfg hf hsame fun hr => .inl (by rw [← hadmin, hr])
  next hnew =>
    refine forest_setCfg_parent hf hadmin fun p hfp => ?_
    rw [hfp] at hp
    simp only [Bool.and_eq_true, ne_eq, decide_not, Bool.not_eq_true', decide_eq_false_iff_not,
      List.contains_eq_mem, maxDepth] at hp
    obtain ⟨⟨⟨hpc, hret⟩, hanc⟩, hdepth⟩ := hp
    refine ⟨hret, ?_, of_decide_eq_true hdepth⟩
    rintro ⟨n, hn⟩
    cases n with
    | zero => exact hpc (by simpa using hn)
    | succ n =>
      refine hanc ((mem_ancestors s treeDepth p c).2 ⟨n, ?_, hn⟩)
      have := hd.lt_of_above (n := n + 1) (k := p) (by rw [hn]; simp)
      have := hd.le_four p
      show n < 16
      omega

/-- Another entry of the view maps no channel that an entry is newly mapped to (R145). -/
theorem injectiveViews_setViewEntry {s : State} (hs : InjectiveViews s.config) {g : HostId} {l : Chan}
    {e : ViewEntry} (hd : s.duplicateMap g l e.physical = false) :
    InjectiveViews (s.setViewEntry g l e).config := by
  intro h m n c hm hn
  by_cases hg : h = g
  · subst hg
    simp only [State.setViewEntry, look_put_self] at hm hn
    have key {j : Chan} (hj : j ≠ l) (he : e.physical = some c)
        (hx : (look (look s.config.views h) j).physical = some c) : False := by
      by_cases hsame : e.physical = (s.viewEntry h l).physical
      · exact hj (hs h j l c hx (hsame ▸ he))
      · have : s.duplicateMap h l e.physical = true := by
          simp only [State.duplicateMap, Bool.and_eq_true, List.any_eq_true, decide_eq_true_eq, ne_eq,
            decide_not, Bool.not_eq_true', decide_eq_false_iff_not]
          exact ⟨⟨by rw [he]; rfl, hsame⟩, j, mem_allChans j, hj, hx.trans he.symm⟩
        rw [hd] at this
        cases this
    rw [look_put] at hm hn
    split at hm <;> split at hn
    next h1 h2 => rw [h1, h2]
    next h1 h2 => exact (key h2 hm hn).elim
    next h1 h2 => exact (key h1 hn hm).elim
    next h1 h2 => exact hs h m n c hm hn
  · simp only [State.setViewEntry, look_put, if_neg hg] at hm hn
    exact hs h m n c hm hn

/-- The configuration that a command leaves (R133 to R145). -/
theorem configurationLaw_tabled {h : HostId} {s t : State} (hs : ConfigurationLaw s.config)
    (ht : Tabled h s t) : ConfigurationLaw t.config := by
  have range (c : Chan) : InRange (s.cfg c) := hs.1.1 c
  cases ht
  case opened period mode attention =>
    have : (s.takeOpen h period mode attention).1.config = s.config := by
      unfold State.takeOpen
      dsimp only
      split
      · rfl
      · split
        · exact freeLock_config _ h
        · rfl
      · rfl
    rw [this]
    exact hs
  case closed ho =>
    show ConfigurationLaw (s.endSession h .closed).config
    rw [endSession_config]
    exact hs
  case adminSet c x hx =>
    exact configurationLaw_setCfg hs (f := { s.cfg c with admin := x }) (range c) rfl
      fun e => absurd e hx
  case retired c hch =>
    exact configurationLaw_setCfg hs (f := { s.cfg c with admin := .retired }) (range c) rfl
      fun _ => .inr hch
  case powerSet ops c f hf =>
    obtain ⟨hrange, hparent, hadmin⟩ := powerOperands_inRange hf (range c)
    exact configurationLaw_setCfg hs hrange hparent fun e => .inl (by rw [← hadmin, e])
  case policySet ops c f hf hp =>
    exact ⟨recordLaw_setCfg hs.1 c (policyOperands_inRange hf (range c)),
      forest_of_parentAllowed hs.2 (policyOperands_admin hf) hp⟩
  case faultSet ops c f hf =>
    obtain ⟨hrange, hparent, hadmin⟩ := faultOperands_inRange hf (range c)
    exact configurationLaw_setCfg hs hrange hparent fun e => .inl (by rw [← hadmin, e])
  case viewSet g l e hp hd =>
    exact ⟨⟨hs.1.1, hs.1.2.1, injectiveViews_setViewEntry hs.1.2.2 hd⟩, hs.2⟩
  case railSet r x h1 h2 h3 h4 =>
    obtain ⟨⟨hchan, hrail, hview⟩, hforest⟩ := hs
    refine ⟨⟨hchan, fun q => ?_, hview⟩, hforest⟩
    simp only [PerRail.of_setOf]
    split
    · exact ⟨h1, h2, h3, h4⟩
    · exact hrail q
  all_goals exact hs

/-! ### Every configuration the part holds -/

/-- The law of every configuration, for the images and the snapshot of Profile Memory. -/
structure ImagesLawful (m : ProfileMemory) : Prop where
  slots : ∀ i x, (m.slot i).image = some x → ConfigurationLaw x
  snapshot : ∀ job, m.store = .writing job → ConfigurationLaw job.snapshot

theorem everyConfiguration_iff (s : State) :
    s.everyConfiguration ConfigurationLaw ↔ ConfigurationLaw s.config ∧ ImagesLawful s.pm :=
  ⟨fun h => ⟨h.1, h.2.1, h.2.2⟩, fun h => ⟨h.1, h.2.slots, h.2.snapshot⟩⟩

/-- A slot rewritten with a lawful image, or erased. -/
theorem ImagesLawful.rewrite {m : ProfileMemory} (h : ImagesLawful m) (i : SlotId) {x : Slot}
    (hx : ∀ y, x.image = some y → ConfigurationLaw y) (b : Bool) (j : SlotId) (y : Configuration)
    (hy : (((m.setSlot i x).setValid i b).slot j).image = some y) : ConfigurationLaw y := by
  rw [ProfileMemory.slot_setValid, ProfileMemory.slot_setSlot_of] at hy
  split at hy
  · exact hx y hy
  · exact h.slots j y hy

theorem imagesLawful_takeCommit {s : State} (hs : ConfigurationLaw s.config) (h : ImagesLawful s.pm)
    (g : HostId) : ImagesLawful (s.takeCommit g).pm := by
  refine ⟨fun j y hy => h.rewrite s.pm.target (x := Slot.erased) nofun false j y ?_, fun job hj => ?_⟩
  · exact hy
  · obtain rfl : job = ⟨s.pm.target, s.pm.currentGeneration + 1, s.config, g, 0⟩ := by
      simpa [State.takeCommit] using hj.symm
    exact hs

theorem imagesLawful_endCommit {s : State} (h : ImagesLawful s.pm) {job : CommitJob}
    (hj : s.pm.store = .writing job) (verified : Bool) : ImagesLawful (s.endCommit job verified).pm := by
  have hsnap := h.snapshot job hj
  cases verified with
  | true =>
    refine ⟨fun j y hy => h.rewrite job.target (x := ⟨job.generation, some job.snapshot,
      Config.profileCheck job.generation job.snapshot⟩) (fun y hy => ?_) true j y hy, nofun⟩
    cases hy
    exact hsnap
  | false => exact ⟨fun j y hy => h.rewrite job.target (x := Slot.erased) nofun false j y hy, nofun⟩

theorem completeLoad_config (s : State) (choice : Option SlotId) :
    (s.completeLoad choice).config = s.loadedImage choice :=
  ((moves_recompute _).trans (moves_settle s _)).kept.config

theorem configurationLaw_loadedImage {s : State} (h : ImagesLawful s.pm) (choice : Option SlotId) :
    ConfigurationLaw (s.loadedImage choice) := by
  cases choice with
  | none => exact configurationLaw_default
  | some i =>
    show ConfigurationLaw ((s.pm.slot i).image.getD Configuration.default)
    cases hx : (s.pm.slot i).image with
    | none => exact configurationLaw_default
    | some x => exact h.slots i x hx

/-- Reading, choosing and loading leave the slots' images. -/
theorem ImagesLawful.of_slots {m n : ProfileMemory} (h : ImagesLawful m) (h0 : n.slot0 = m.slot0)
    (h1 : n.slot1 = m.slot1) (hw : ∀ job, n.store ≠ .writing job) : ImagesLawful n := by
  refine ⟨fun i x hx => h.slots i x ?_, fun job hj => absurd hj (hw job)⟩
  cases i
  · rwa [ProfileMemory.slot, h0] at hx
  · rwa [ProfileMemory.slot, h1] at hx

theorem lapse_config (s : State) (h : HostId) : (s.takeLapse h).config = s.config := by
  unfold State.takeLapse
  dsimp only
  split
  · exact endSession_config s h _
  · rw [((moves_dropSilently _ _).trans (moves_settle _ _)).kept.config]
    exact endSession_config s h _

theorem configurations_does {s t : State} (hs : ConfigurationLaw s.config ∧ ImagesLawful s.pm)
    (ht : Does s t) : ConfigurationLaw t.config ∧ ImagesLawful t.pm := by
  obtain ⟨hlive, himages⟩ := hs
  cases ht with
  | nothing => exact ⟨hlive, himages⟩
  | portOnly h p hp hq => exact ⟨hlive, himages⟩
  | served h p u hl hu hp =>
    obtain ⟨v, hv, hm⟩ := served_tabled hu
    have hconf := configurationLaw_tabled (s := s.setPort h (s.port h).renewed) hlive hv
    rw [State.setPort_config, State.setPort_pm, hm.kept.config, hm.kept.pm]
    refine ⟨hconf, ?_⟩
    rcases tabled_pm hv with hpm | ⟨rfl, hg⟩
    · rw [hpm]; exact himages
    · exact imagesLawful_takeCommit (s := s.setPort h _) hlive himages h
  | reset cause =>
    exact ⟨configurationLaw_default, himages.of_slots rfl rfl nofun⟩
  | loadBegun hb => exact ⟨hlive, himages.of_slots rfl rfl nofun⟩
  | loaded choice hc =>
    rw [completeLoad_config, completeLoad_pm]
    exact ⟨configurationLaw_loadedImage himages choice, himages.of_slots rfl rfl nofun⟩
  | commitEnded job verified hj hage =>
    refine ⟨?_, imagesLawful_endCommit himages hj verified⟩
    unfold State.endCommit
    split <;> exact hlive
  | lapsed h hl ho hx => rw [lapse_config, lapse_pm]; exact ⟨hlive, himages⟩
  | own t hl ht => rw [(own_drifts ht).config, (own_drifts ht).pm]; exact ⟨hlive, himages⟩

theorem passTime_config (s : State) : s.passTime.config = s.config := by rw [passTime_frame]

theorem imagesLawful_passTime {s : State} (h : ImagesLawful s.pm) : ImagesLawful s.passTime.pm := by
  unfold State.passTime
  split
  · exact h
  · refine ⟨h.slots, fun job hj => ?_⟩
    dsimp only at hj
    cases hx : s.pm.store <;> simp [hx, StoreState.tick] at hj
    subst hj
    exact (h.snapshot _ hx :)

/-- Settles O53: the checks of the commands keep ranges, views and forest, a snapshot is the live configuration,
and a load takes a slot's image or the defaults. -/
theorem configurationLawIsKept : Obligations.ConfigurationLawIsKept := by
  intro s t hs hstep
  rw [everyConfiguration_iff] at hs ⊢
  exact step_keeps_of_does (P := fun s => ConfigurationLaw s.config ∧ ImagesLawful s.pm)
    (fun _ _ hs => hs) (fun _ _ hs => hs) (fun _ _ => configurations_does)
    (fun s hs => ⟨by rw [passTime_config]; exact hs.1, imagesLawful_passTime hs.2⟩) hs hstep

end Sys2Proof.Machine
end

section
/-! PROOFS. The step, resets and the choice of an image, transactions, and the frames a port answers by itself. -/

namespace Sys2Proof.Machine

/-! ### The step -/

/-- Settles O1: it is `step` at a queue that is not empty. -/
theorem stepRunsFrontCommand : Obligations.StepRunsFrontCommand := by
  intro c rest s hs
  simp [step, hs]

theorem ownEvent_eq_none {s : State} (h : s.dueEvents = []) : s.ownEvent = none := by
  simp [State.ownEvent, h, pick]

/-- An idle step lets a millisecond pass. -/
theorem step_idle {s : State} (hp : s.pending = []) (hd : s.dueEvents = []) :
    step s = .next s.passTime := by
  simp [step, hp, ownEvent_eq_none hd]

/-- A millisecond while Profile Memory does not load. -/
theorem passTime_awake {s : State} (h : s.isLoading = false) : s.passTime = { s with
    deviceTime := s.deviceTime + 1
    channels := tabulate fun c => (s.ctl c).tick
    rails := ⟨s.rails.railA.tick, s.rails.railB.tick⟩
    ports := tabulate fun h => { s.port h with leaseTimer := countDown (s.port h).leaseTimer }
    pm := { s.pm with store := s.pm.store.tick } } := by
  simp [State.passTime, h]

/-- Settles O2: the step is `passTime`, read field by field. -/
theorem idleStepCountsAMillisecond : Obligations.IdleStepCountsAMillisecond := by
  intro s hp hl hd
  refine ⟨s.passTime, step_idle hp hd, ?_⟩
  rw [passTime_awake hl]
  refine ⟨rfl, fun c => by simp [State.ctl]; rfl, fun r => by cases r <;> rfl,
    fun h => by simp [State.port]; rfl, fun job hj => ?_, fun hi => ?_, rfl⟩
  · simp [hj, StoreState.tick]
  · simp [hi, StoreState.tick]

/-! ### Resets -/

/-- What the part reads right after it is put in reset. -/
theorem afterReset_resetValues (s : State) (cause : ResetCause) :
    let t := s.afterReset cause
    (∀ c h, t.claimOf c h = none) ∧ (∀ c, t.dem c = Demand.absent) ∧
    (∀ c, t.cfg c = ChannelConfig.default) ∧ (∀ c, t.ctl c = Controller.atReset) ∧
    (∀ c, t.sen c = ChannelSense.atReset) ∧ (∀ k, look t.xf k = false) ∧
    (∀ k, t.line k = ⟨false, 0⟩) ∧ (∀ r, t.rail r = ⟨false, .down, none, none⟩) ∧
    (∀ r, t.account r = ⟨0, []⟩) ∧ (∀ h, t.port h = Port.atReset (s.port h).selected) ∧
    ∀ h, t.noticesOf h = [] := by
  refine ⟨?_, ?_, ?_, ?_, ?_, ?_, ?_, fun r => by cases r <;> rfl, fun r => by cases r <;> rfl, ?_, ?_⟩ <;>
    intros <;>
    simp [State.afterReset, State.reset, State.claimOf, State.dem, State.cfg, State.ctl, State.sen,
      State.line, State.port, State.noticesOf, Configuration.default]

theorem afterReset_isLoading (s : State) (cause : ResetCause) : (s.afterReset cause).isLoading = true := rfl

theorem exec_resetN (s : State) : exec .resetN s =
    .next (if s.inPowerOnReset then s else s.afterReset .pin) := rfl

/-- Settles O3: both commands leave `afterReset`, whose tables hold one reset value each. -/
theorem resetsLeaveTheResetValues : Obligations.ResetsLeaveTheResetValues := by
  refine ⟨fun s hs => by rw [exec_resetN, if_pos hs], fun i cause s hi => ?_⟩
  have hexec : exec i s = .next (s.afterReset cause) := by
    rcases hi with ⟨rfl, rfl⟩ | ⟨rfl, rfl, hs⟩
    · rfl
    · rw [exec_resetN, if_neg (by simp [hs])]
  obtain ⟨hclaim, hdem, hcfg, hctl, hsen, hxf, hline, hrail, hacc, hport, hnot⟩ :=
    afterReset_resetValues s cause
  refine ⟨_, hexec, rfl, rfl, rfl, rfl, hclaim, fun c => ?_, rfl, rfl, rfl, fun r => ?_, fun c => ?_,
    fun c => ?_, fun k => ?_, fun r => ?_, fun h => ?_, rfl, rfl⟩
  · rw [hdem, hcfg]; exact ⟨rfl, rfl, rfl, rfl⟩
  · rw [hacc]
  · simp [hctl, Controller.atReset, State.dischargeSwitch, State.railSwitch, afterReset_isLoading]
  · rw [hsen]; exact ⟨rfl, rfl, rfl, rfl⟩
  · rw [hxf, hline]; exact ⟨rfl, rfl⟩
  · rw [hrail]; exact ⟨rfl, rfl, rfl, rfl⟩
  · rw [hport, hnot]
    refine ⟨rfl, rfl, rfl, rfl, rfl, rfl, rfl, rfl, ?_⟩
    simp [State.attention, hport, Port.atReset]

/-- Settles O4: `chooseSlot` in each of the four cases of validity. -/
theorem resetEndChoosesTheNewestValidSlot : Obligations.ResetEndChoosesTheNewestValidSlot := by
  intro s hs
  refine ⟨chooseSlot s.pm.slot0 s.pm.slot1, ?_, fun h0 h1 => ?_, fun h0 h1 => ?_, fun h0 h1 => ?_,
    fun h0 h1 => ?_⟩
  · simp [exec, execResetEnd, hs, State.beginLoad]
  all_goals simp [chooseSlot, h0, h1, BitVec.lt_def]

/-! ### Transactions -/

theorem exec_transactionOpen (h : HostId) (s : State) : exec (.transactionOpen h) s =
    .next (if (s.port h).selected then s else s.openTransaction h) := rfl

theorem exec_transactionEnd (h : HostId) (s : State) : exec (.transactionEnd h) s =
    .next (if (s.port h).selected then s.closeTransaction h else s) := rfl

/-- Settles O6: each clause is one branch of the two rows, of the frame's way through the port, or of SDO. -/
theorem transactionsOpenAndEnd : Obligations.TransactionsOpenAndEnd := by
  intro h s
  refine ⟨fun hs hr => ?opens, fun hs hr => ?selects, fun hs => ?selected, fun hs => ?closes,
    fun hs => ?released, fun hr => ⟨fun i q hi hq => ?frame, fun seq cmd len => ?lenByte⟩,
    fun hs i => ?high, fun hs hr i => ?request, fun i b hs hr hb => ?response, fun i hs hr hl => ?beyond⟩
  case opens => simp [exec_transactionOpen, hs, State.openTransaction, hr]
  case selects => simp [exec_transactionOpen, hs, State.openTransaction, hr]
  case selected => simp [exec_transactionOpen, hs]
  case closes => simp [exec_transactionEnd, hs, State.closeTransaction]
  case released => simp [exec_transactionEnd, hs]
  case frame =>
    subst hq
    exact exec_request_ignored hi hr
  case lenByte => rw [exec_frameError, takeLenByte_ignored hr]
  case high => simp [State.sdo, hs]
  case request => simp [State.sdo, hs, hr]
  case response => simp [State.sdo, hs, hr, hb]
  case beyond => simp [State.sdo, hs, hr, List.getElem?_eq_none hl]

/-! ### Frames that are turned away -/

theorem exec_starting {i : Instr} {q : Request} {s : State} (hi : requestOf i = some q)
    (hl : s.isLoading = true) (hr : (s.port q.port).receiver = .request) :
    exec i s = .next (s.turnedAway q 0x03) := by
  rw [exec_request hi, takeFrame_starting hr hl]
  rfl

/-- A code of no command has the body of BAD_COMMAND. -/
theorem commandBody_of_not_code {cmd : Byte} (h : isCommandCode cmd = false) :
    commandBody cmd = badCommandBody := by
  unfold commandBody
  split
  case h_28 => rfl
  all_goals
    rename_i hc
    exact absurd h (by unfold isCommandCode; rw [hc]; decide)

theorem ne_codeClose_of_not_code {cmd : Byte} (h : isCommandCode cmd = false) : cmd ≠ codeClose := by
  rintro rfl
  exact absurd h (by decide)

/-- Settles O8: STARTING before any check, NO_SESSION at the session check, BAD_COMMAND by its body. -/
theorem framesAreTurnedAway : Obligations.FramesAreTurnedAway := by
  refine ⟨fun i q s hi hl hr _ => exec_starting hi hl hr, fun i q s hi hn hs hid hop => ?_,
    fun h seq cmd ops s hc ht => ?_⟩
  · exact exec_of_not_admitted hi hn (admits_eq_false hs hid hop)
  · have hbody : commandBody cmd h ops (s.renewLease h) = (s.renewLease h, refuse .badCommand) := by
      rw [commandBody_of_not_code hc]
      rfl
    exact exec_of_body_reads (q := ⟨h, seq, cmd, ops⟩) rfl ht (ne_codeClose_of_not_code hc) hbody

/-! ### The replay store -/

/-- A frame whose SEQ is stored is answered by the port alone, its lease renewed. -/
theorem replay_eq (s : State) (q : Request) (e : ReplayEntry) :
    s.replay q.port q.seq q.cmd q.operands e =
      s.setPort q.port ((s.port q.port).renewed.gives
        (if e.cmd = q.cmd ∧ e.ops = q.operands then e.response else [0x19, q.seq, 0])) := by
  unfold State.replay
  by_cases h : e.cmd = q.cmd ∧ e.ops = q.operands
  · rw [if_pos (by simp [h]), if_pos h, renewLease_eq]
    simp [State.respond, Port.gives]
  · rw [if_neg (by simpa using h), if_neg h, renewLease_eq, answer_eq_gives]
    simp
    rfl

/-- Settles O9: the port compares the frame with its entry before the command is looked at. -/
theorem replayStoreAnswersItsSeq : Obligations.ReplayStoreAnswersItsSeq := by
  intro i q e s hi hm
  rw [exec_request hi, takeFrame_meets hm, replay_eq]

/-! ### The lock commands -/

@[simp] theorem renewLease_lock (s : State) (h : HostId) : (s.renewLease h).lock = s.lock := by
  rw [renewLease_eq]; rfl

/-- Every command that needs the lock first asks whether the host holds it. -/
theorem commandBody_notHolder {cmd : Byte} (hc : cmd ∈ lockCommands) {h : HostId} {s : State}
    (hl : s.lock ≠ some h) (ops : List Byte) :
    commandBody cmd h ops s = (s, refuse .notHolder) := by
  have hn : ¬ s.holdsLock h = true := by simpa [State.holdsLock] using hl
  simp only [lockCommands, List.mem_cons, List.not_mem_nil, or_false] at hc
  rcases hc with rfl | rfl | rfl | rfl | rfl | rfl | rfl | rfl | rfl | rfl | rfl <;> exact if_neg hn

theorem ne_codeClose_of_mem_lockCommands {cmd : Byte} (hc : cmd ∈ lockCommands) : cmd ≠ codeClose := by
  rintro rfl
  revert hc
  decide

/-- Settles O10: the body hands its state back with NOT_HOLDER. -/
theorem lockCommandsNeedTheLock : Obligations.LockCommandsNeedTheLock := by
  intro i q s hi ht hc hl
  exact exec_of_body_reads hi ht (ne_codeClose_of_mem_lockCommands hc)
    (commandBody_notHolder hc (by simpa using hl) _)

end Sys2Proof.Machine
end

section
/-! PROOFS. What a refused frame leaves alone (R193). -/

namespace Sys2Proof.Machine

/-! ### Refusals -/

/-- The command is answered OK, or hands its state back. -/
def OkOrUnchanged (s : State) (out : State × Reply) : Prop := out.2.result = .ok ∨ out.1 = s

theorem okOrUnchanged_ok (s t : State) (data : List Byte) : OkOrUnchanged s (t, okReply data) := .inl rfl

theorem okOrUnchanged_same (s : State) (r : Reply) : OkOrUnchanged s (s, r) := .inr rfl

theorem okOrUnchanged_takeOpen (s : State) (h : HostId) (period : Nat) (mode : OrphanMode)
    (attention : Bool) : OkOrUnchanged s (s.takeOpen h period mode attention) := by
  unfold State.takeOpen
  dsimp only
  split
  all_goals exact okOrUnchanged_ok s _ _

theorem okOrUnchanged_clearFault (s : State) (c : Chan) : OkOrUnchanged s (s.clearFault c) := by
  unfold State.clearFault
  split
  all_goals simp [OkOrUnchanged, okReply]

theorem okOrUnchanged_channelCommand {h : HostId} {ops : List Byte} {s : State}
    {taken : Chan → State × Reply} (ht : ∀ c, OkOrUnchanged s (taken c)) :
    OkOrUnchanged s (channelCommand h ops s taken) := by
  unfold channelCommand
  repeat' split
  case _ => exact okOrUnchanged_same s _
  case _ => exact ht _
  all_goals exact okOrUnchanged_same s _

theorem okOrUnchanged_claimChecked (h : HostId) (l : Chan) (priority : Nat) (tag : BitVec 16) (s : State) :
    OkOrUnchanged s (claimChecked h l priority tag s) := by
  unfold claimChecked
  repeat' split
  all_goals simp [OkOrUnchanged, okReply]

/-- Of every command: only one that is answered OK changes the state. -/
theorem okOrUnchanged_commandBody (cmd : Byte) (h : HostId) (ops : List Byte) (s : State) :
    OkOrUnchanged s (commandBody cmd h ops s) := by
  generalize hb : commandBody cmd = body
  unfold commandBody at hb
  split at hb <;> subst hb
  case h_2 =>
    unfold openBody
    repeat' split
    case _ => exact okOrUnchanged_takeOpen _ _ _ _ _
    all_goals exact okOrUnchanged_same s _
  case h_7 =>
    unfold claimBody
    repeat' split
    case _ => exact okOrUnchanged_claimChecked _ _ _ _ _
    all_goals exact okOrUnchanged_same s _
  case h_12 =>
    unfold clearFaultBody
    repeat' split
    case _ => exact okOrUnchanged_same s _
    case _ => exact okOrUnchanged_same s _
    case _ => exact okOrUnchanged_clearFault _ _
    all_goals exact okOrUnchanged_same s _
  case h_13 => exact okOrUnchanged_channelCommand fun c => okOrUnchanged_ok s _ _
  case h_14 => exact okOrUnchanged_channelCommand fun c => okOrUnchanged_ok s _ _
  case h_15 =>
    refine okOrUnchanged_channelCommand fun c => ?_
    repeat' split
    all_goals simp [OkOrUnchanged, okReply]
  case h_16 => exact okOrUnchanged_channelCommand fun c => okOrUnchanged_ok s _ _
  all_goals
    simp only [identifyBody, closeBody, pingBody, lockBody, unlockBody, releaseBody, channelStatusBody,
      railStatusBody, nextNoticeBody, setChannelPowerBody, setChannelPolicyBody, setChannelFaultBody,
      getChannelConfigBody, setViewEntryBody, getViewEntryBody, setRailBody, getRailBody,
      dropClaimsBody, commitBody, profileStatusBody, badCommandBody]
    repeat' split
    all_goals simp [OkOrUnchanged, okReply]

/-! ### The port of a frame that changed nothing else -/

/-- The state has only its port's receiver, response, lease timer and replay store changed. -/
def PortOnly (s t : State) (h : HostId) : Prop :=
  t = s.setPort h { s.port h with
    receiver := (t.port h).receiver, response := (t.port h).response
    leaseTimer := (t.port h).leaseTimer, replay := (t.port h).replay }

theorem portOnly_setPort {s : State} {h : HostId} {p : Port} (hp : p = { s.port h with
    receiver := p.receiver, response := p.response, leaseTimer := p.leaseTimer, replay := p.replay }) :
    PortOnly s (s.setPort h p) h := by
  unfold PortOnly
  rw [State.port_setPort]
  exact congrArg (s.setPort h) hp

theorem portOnly_refl (s : State) (h : HostId) : PortOnly s s h := by
  have e := portOnly_setPort (s := s) (h := h) (p := s.port h) rfl
  rwa [State.setPort_port_self] at e

theorem portOnly_answer (s : State) (h : HostId) (seq : Byte) (r : Reply) :
    PortOnly s (s.answer h seq r) h := portOnly_setPort rfl

theorem renewed_keeps (p : Port) : p.renewed = { p with leaseTimer := p.renewed.leaseTimer } := by
  unfold Port.renewed
  split <;> rfl

/-- An executed frame whose body hands its state back. -/
theorem portOnly_executed (s : State) (q : Request) (r : Reply) :
    PortOnly s (((s.renewLease q.port).store q.port q.seq q.cmd q.operands r).answer q.port q.seq r)
      q.port := by
  rw [answer_eq_gives, renewLease_eq]
  unfold State.store
  split
  · rw [State.setPort_setPort, State.port_setPort]
    apply portOnly_setPort
    rw [renewed_keeps]
    rfl
  · rw [State.setPort_setPort, State.setPort_setPort, State.port_setPort, State.port_setPort]
    apply portOnly_setPort
    rw [renewed_keeps]
    rfl

theorem portOnly_replay (s : State) (q : Request) (e : ReplayEntry) :
    PortOnly s (s.replay q.port q.seq q.cmd q.operands e) q.port := by
  rw [replay_eq]
  apply portOnly_setPort
  rw [renewed_keeps]
  rfl

/-- The answer begins with the result's code. -/
theorem answer_head (s : State) (h : HostId) (seq : Byte) (r : Reply) :
    ((s.answer h seq r).port h).response.head? = some r.result.code := by
  simp [answer_eq_gives, Port.gives, responseBytes]

/-- Settles O11: along the frame's way through the port only the body of a command that is answered OK
reaches another block. -/
theorem refusalsChangeNothing : Obligations.RefusalsChangeNothing := by
  intro i q s t hi hexec hok _
  change PortOnly s t q.port
  rw [exec_request hi, Host.Outcome.next.injEq] at hexec
  subst hexec
  generalize hb : commandBody q.cmd = body at hok ⊢
  unfold State.takeFrame at hok ⊢
  split
  case isFalse => exact portOnly_refl s _
  rename_i hreq
  rw [if_pos hreq] at hok
  split
  case isTrue => exact portOnly_answer s _ _ _
  rename_i hload
  rw [if_neg hload] at hok
  split
  case isTrue => exact portOnly_answer s _ _ _
  rename_i hlen
  rw [if_neg hlen] at hok
  split
  case h_1 e he => exact portOnly_replay s q e
  rename_i hst
  rw [hst] at hok
  dsimp only at hok
  unfold State.execute at hok ⊢
  split
  case isFalse => exact portOnly_answer s _ _ _
  rename_i hadm
  rw [if_pos hadm] at hok
  dsimp only at hok ⊢
  rw [answer_head] at hok
  have hout := okOrUnchanged_commandBody q.cmd q.port q.operands (s.renewLease q.port)
  rw [hb] at hout
  rcases hout with hres | hsame
  · exact absurd (by rw [hres]; rfl) hok
  · rw [hsame]
    exact portOnly_executed s q _

end Sys2Proof.Machine
end

section
/-! PROOFS. The reads: PING, the view, rail and profile reads, CHANNEL_STATUS, RAIL_STATUS and NEXT_NOTICE. -/

namespace Sys2Proof.Machine

/-! ### Operand bytes -/

theorem hostByte_toNat (h : HostId) : (hostByte h).toNat = h.val := Nat.mod_eq_of_lt (by omega)

@[simp] theorem fourOperand_hostByte (h : HostId) : fourOperand (hostByte h) = some h := by
  simp [fourOperand, hostByte_toNat]

@[simp] theorem railOperand_code (r : Rail) : railOperand (Rail.code r) = some r := by cases r <;> rfl

theorem chanCode_eq (x : Option Chan) :
    chanCode x = match x with | some c => byteOf c.val | none => 0xFF := by
  cases x <;> rfl

/-! ### Plain reads -/

theorem profileStatusBody_badLength {ops : List Byte} (hops : ops ≠ []) (h : HostId) (s : State) :
    profileStatusBody h ops s = (s, refuse .badLength) := by
  cases ops with
  | nil => exact absurd rfl hops
  | cons b ops => rfl

/-- Settles O16: four bodies that hand their state back with the bytes named. -/
theorem plainReadsAnswerWhatStands : Obligations.PlainReadsAnswerWhatStands := by
  refine ⟨fun h seq ops s ht => ?ping, fun h g l seq s ht => ?view, fun h r seq s ht => ?rail,
    fun h seq ops s ht => ⟨fun hops => ?badLength, fun hops => ?profile⟩⟩
  case ping =>
    have hbody : pingBody h ops (s.renewLease h) =
        (s.renewLease h, okReply (be32 s.deviceTime ++ ops)) := by
      rw [renewLease_eq]; rfl
    exact exec_of_body_reads rfl ht (by decide : (0x04 : Byte) ≠ codeClose) hbody
  case view =>
    have hbody : getViewEntryBody h [hostByte g, chanByte l] (s.renewLease h) =
        (s.renewLease h, okReply (viewEntryBytes (s.viewEntry g l))) := by
      rw [renewLease_eq]
      simp [getViewEntryBody]
    rw [exec_of_body_reads rfl ht (by decide : (0x35 : Byte) ≠ codeClose) hbody]
    generalize s.viewEntry g l = e
    obtain ⟨_ | c, watch⟩ := e
    · rfl
    · rfl
  case rail =>
    have hbody : getRailBody h [Rail.code r] (s.renewLease h) =
        (s.renewLease h, okReply (be16Of (s.config.rails.of r).limit ++
          [byteOf (s.config.rails.of r).lossQual, byteOf (s.config.rails.of r).restoreQual])) := by
      rw [renewLease_eq]
      simp [getRailBody]
    exact exec_of_body_reads rfl ht (by decide : (0x37 : Byte) ≠ codeClose) hbody
  case badLength =>
    have hbody := profileStatusBody_badLength hops h (s.renewLease h)
    rw [exec_of_body_reads rfl ht (by decide : (0x41 : Byte) ≠ codeClose) hbody]
    rfl
  case profile =>
    subst hops
    have hbody : profileStatusBody h [] (s.renewLease h) = (s.renewLease h,
        okReply ([StoreState.code s.pm.store] ++ be32 s.pm.slot0.generation ++
          [boolByte s.pm.valid0] ++ be32 s.pm.slot1.generation ++ [boolByte s.pm.valid1] ++
          be32 s.pm.currentGeneration)) := by
      rw [renewLease_eq]; rfl
    rw [exec_of_body_reads rfl ht (by decide : (0x41 : Byte) ≠ codeClose) hbody]
    cases s.pm.store <;> rfl

/-! ### CHANNEL_STATUS -/

/-- A member is found by a key that no other member has. -/
theorem find?_eq_of_nodup {α β : Type} [DecidableEq β] {f : α → β} {l : List α} {x : α}
    (hn : (l.map f).Nodup) (hx : x ∈ l) : (l.find? fun y => f y = f x) = some x := by
  induction l with
  | nil => cases hx
  | cons y ys ih =>
    rw [List.map_cons, List.nodup_cons] at hn
    rcases List.mem_cons.1 hx with rfl | hx
    · simp
    · have hne : f y ≠ f x := fun e => hn.1 (e ▸ List.mem_map_of_mem hx)
      rw [List.find?_cons_of_neg (by simpa using hne)]
      exact ih hn.2 hx

theorem account_charges_cases (s : State) (r : Rail) (x : Charge) :
    x ∈ (s.account r).charges ↔
      r = .a ∧ x ∈ s.accounts.railA.charges ∨ r = .b ∧ x ∈ s.accounts.railB.charges := by
  cases r <;> simp [State.account, PerRail.of]

theorem Uncharged.notMem {s : State} {c : Chan} (h : Uncharged s c) :
    ∀ x ∈ s.accounts.railA.charges ++ s.accounts.railB.charges, x.chan ≠ c := by
  intro x hx
  rcases List.mem_append.1 hx with hx | hx
  · exact h .a x hx
  · exact h .b x hx

theorem reportedRail_uncharged {s : State} {c : Chan} (h : Uncharged s c) : s.reportedRail c = none := by
  have hA : (s.accounts.railA.charges.any fun x => decide (x.chan = c)) = false := by
    simpa using fun x hx => h.notMem x (List.mem_append_left _ hx)
  have hB : (s.accounts.railB.charges.any fun x => decide (x.chan = c)) = false := by
    simpa using fun x hx => h.notMem x (List.mem_append_right _ hx)
  simp only [State.reportedRail, hA, hB]
  rfl

theorem reportedClass_uncharged {s : State} {c : Chan} (h : Uncharged s c) :
    s.reportedClass c = (s.cfg c).classAU := by
  have hf : ((s.accounts.railA.charges ++ s.accounts.railB.charges).find? fun x => x.chan = c) = none := by
    rw [List.find?_eq_none]
    exact fun x hx => by simpa using h.notMem x hx
  simp only [State.reportedClass, hf]

/-- Under the law of the charges a channel is charged once (R26). -/
theorem ChargeLaw.find {s : State} (h : ChargeLaw s) {r : Rail} {x : Charge} (hx : x ∈ (s.account r).charges) :
    ((s.accounts.railA.charges ++ s.accounts.railB.charges).find? fun y => y.chan = x.chan) = some x := by
  refine find?_eq_of_nodup h.2.2.2.1 (List.mem_append.2 ?_)
  rcases (account_charges_cases s r x).1 hx with ⟨-, hx⟩ | ⟨-, hx⟩
  · exact .inl hx
  · exact .inr hx

theorem ChargeLaw.reportedClass {s : State} (h : ChargeLaw s) {r : Rail} {x : Charge}
    (hx : x ∈ (s.account r).charges) : s.reportedClass x.chan = x.classAU := by
  simp only [State.reportedClass, h.find hx]

theorem ChargeLaw.reportedRail {s : State} (h : ChargeLaw s) {r : Rail} {x : Charge}
    (hx : x ∈ (s.account r).charges) : s.reportedRail x.chan = some r := by
  have hrail (q : Rail) (y : Charge) (hy : y ∈ (s.account q).charges) (e : y.chan = x.chan) : q = r := by
    have h1 := (h.2.1 q y hy).1
    rw [e, (h.2.1 r x hx).1] at h1
    exact (Option.some.inj h1).symm
  unfold State.reportedRail
  cases r with
  | a =>
    have hA : (s.accounts.railA.charges.any fun y => decide (y.chan = x.chan)) = true := by
      simpa using ⟨x, hx, rfl⟩
    rw [if_pos hA]
  | b =>
    have hA : ¬ (s.accounts.railA.charges.any fun y => decide (y.chan = x.chan)) = true := by
      simp only [List.any_eq_true, decide_eq_true_eq, not_exists, not_and]
      exact fun y hy e => nomatch hrail .a y hy e
    have hB : (s.accounts.railB.charges.any fun y => decide (y.chan = x.chan)) = true := by
      simpa using ⟨x, hx, rfl⟩
    rw [if_neg hA, if_pos hB]

theorem reportedNumber_of_ne {s : State} {c : Chan} (h : (s.ctl c).state ≠ .queued) :
    s.reportedNumber c = 0 := by
  simp [State.reportedNumber, h]

theorem QueueLaw.reportedNumber {s : State} (h : QueueLaw s) {e : QueueEntry} (he : e ∈ s.queue) :
    s.reportedNumber e.chan = BitVec.ofNat 32 e.number := by
  have hq : (s.ctl e.chan).state = .queued := (h.1 e.chan).2 ⟨e, he, rfl⟩
  have hf : (s.queue.find? fun y => y.chan = e.chan) = some e := find?_eq_of_nodup h.2.1 he
  simp only [State.reportedNumber, hq, hf, if_true]

/-- A claim as its three parts. -/
theorem callerClaimBytes_eq (x : Option Claim) : callerClaimBytes x = [byteOf (claimPriority x)] ++
    be16 (match x with | some x => x.tag | none => 0) ++
    be32 (match x with | some x => x.time | none => 0) := by
  cases x <;> rfl

/-- Settles O13: the body hands its state back with `channelStatusBytes`; rail, class and number are those
of the only charge and the only entry the law allows. -/
theorem channelStatusReportsTheChannel : Obligations.ChannelStatusReportsTheChannel := by
  intro h seq l c s ht hl
  refine ⟨railCode (s.reportedRail c), byteOf (s.reportedClass c), byteOf (claimPriority (s.claimOf c h)),
    (s.reportedNumber c).extractLsb' 24 8, (s.reportedNumber c).extractLsb' 16 8,
    (s.reportedNumber c).extractLsb' 8 8, (s.reportedNumber c).extractLsb' 0 8, ?answer, rfl,
    fun hu => ?uncharged, fun hlaw r x hx hc => ?charged, fun hq => ?waitsNot, fun hlaw e he hc => ?waits⟩
  case answer =>
    have hbody : channelStatusBody h [chanByte l] (s.renewLease h) =
        (s.renewLease h, okReply (s.channelStatusBytes h c)) := by
      rw [renewLease_eq]
      simp only [channelStatusBody, chanOperand_chanByte, State.setPort_viewEntry, hl]
      rfl
    rw [exec_of_body_reads rfl ht (by decide : (0x12 : Byte) ≠ codeClose) hbody]
    have hbytes : s.channelStatusBytes h c = [(s.ctl c).state.code, (s.ctl c).sub.code,
        adminCode (s.cfg c).admin, railCode (s.reportedRail c), demandFlags (s.dem c),
        byteOf (s.dem c).priority, byteOf (if (s.dem c).own then (s.dem c).ownPriority else 0),
        byteOf (s.reportedClass c), byteOf (s.ctl c).retryCount, lastFaultCode (s.ctl c).lastFault] ++
        be16 (s.sen c).measured ++ [s.claimMasks c, byteOf (claimPriority (s.claimOf c h))] ++
        be16 (match s.claimOf c h with | some x => x.tag | none => 0) ++
        be32 (match s.claimOf c h with | some x => x.time | none => 0) ++ be32 (s.reportedNumber c) := by
      unfold State.channelStatusBytes
      rw [callerClaimBytes_eq]
      simp
    rw [hbytes]
    rfl
  case uncharged =>
    rw [reportedRail_uncharged hu, reportedClass_uncharged hu]
    exact ⟨rfl, rfl⟩
  case charged =>
    subst hc
    rw [hlaw.2.reportedRail hx, hlaw.2.reportedClass hx]
    exact ⟨rfl, rfl⟩
  case waitsNot =>
    rw [reportedNumber_of_ne hq]
    rfl
  case waits =>
    subst hc
    rw [hlaw.1.reportedNumber he]
    rfl

/-! ### RAIL_STATUS -/

theorem parentOn_iff (s : State) (c : Chan) :
    s.parentOn c = true ↔ ∀ p, (s.cfg c).parent = some p → (s.ctl p).state = .isOn := by
  unfold State.parentOn
  cases (s.cfg c).parent <;> simp

theorem parentOn_eq_false {s : State} {c : Chan} : s.parentOn c = false ↔
    ∃ p, (s.cfg c).parent = some p ∧ (s.ctl p).state ≠ .isOn := by
  rw [← Bool.not_eq_true, parentOn_iff]
  simp

/-- The candidate is the first entry that passes the two conditions. -/
theorem candidate_eq_some {s : State} {r : Rail} {before after : List QueueEntry} {e : QueueEntry}
    (hq : s.queue = before ++ e :: after) (he : s.parentOn e.chan = true ∧ s.target e.chan = some r)
    (hb : ∀ x ∈ before, ¬ (s.parentOn x.chan = true ∧ s.target x.chan = some r)) :
    s.candidate r = some e := by
  unfold State.candidate
  rw [hq, List.find?_append, List.find?_eq_none.2 (by simpa using hb), Option.none_or,
    List.find?_cons_of_pos (by simpa using he)]

theorem candidate_eq_none {s : State} {r : Rail}
    (h : ∀ x ∈ s.queue, ¬ (s.parentOn x.chan = true ∧ s.target x.chan = some r)) : s.candidate r = none := by
  unfold State.candidate
  rw [List.find?_eq_none]
  simpa using h

/-- Settles O14: the body hands its state back with `railStatusBytes`; the waiting candidate is the first
entry that passes the two conditions of R34. -/
theorem railStatusReportsBothRails : Obligations.RailStatusReportsBothRails := by
  intro h seq s ht
  refine ⟨fun r => chanCode (s.waitingCandidate h r), ?answer, fun r before e after hq htgt hpar hb => ?some,
    fun r hno => ?none⟩
  case answer =>
    have hbody : railStatusBody h [] (s.renewLease h) = (s.renewLease h,
        okReply (s.railStatusBytes h .a ++ s.railStatusBytes h .b ++ [byteOf s.queue.length])) := by
      rw [renewLease_eq]; rfl
    rw [exec_of_body_reads rfl ht (by decide : (0x13 : Byte) ≠ codeClose) hbody]
    simp only [List.flatMap_cons, List.flatMap_nil, List.append_nil]
    rfl
  case some =>
    have hcand : s.candidate r = some e := by
      refine candidate_eq_some hq ⟨(parentOn_iff s e.chan).2 hpar, htgt⟩ fun x hx hc => ?_
      have hno := parentOn_eq_false.2 (hb x hx hc.2)
      rw [hc.1] at hno
      cases hno
    simp only [State.waitingCandidate, hcand]
    exact chanCode_eq _
  case none =>
    have hcand : s.candidate r = none := by
      refine candidate_eq_none fun x hx hc => ?_
      have hno := parentOn_eq_false.2 (hno x hx hc.2)
      rw [hc.1] at hno
      cases hno
    simp only [State.waitingCandidate, hcand]
    rfl

/-! ### Notices -/

theorem attention_iff (s : State) (h : HostId) : s.attention h = true ↔
    (s.port h).session = .opened ∧ (s.port h).attention = true ∧ s.noticesOf h ≠ [] := by
  simp [State.attention, and_assoc]

theorem appendNotice_ne_nil (q : List Notice) (n : Notice) : appendNotice q n ≠ [] := by
  intro h
  have hl := appendNotice_length q n
  rw [h] at hl
  split at hl
  · cases hl
  · rename_i hq
    simp only [List.length_nil] at hl
    omega

/-- Settles O25: `appendNotice` below and at the capacity, and ATTN_N as its three conditions. -/
theorem fullQueueFlagsItsNewestRecord : Obligations.FullQueueFlagsItsNewestRecord := by
  intro hosts record h s
  refine ⟨fun hh => ?other, fun hh hl => ?room, fun older newest hh hl hq => ?full, attention_iff s h,
    fun hh ho ha => ?attention, State.deliver_frame s hosts record⟩
  case other => simp [hh]
  case room => simp [hh, appendNotice, noticeCapacity, hl]
  case full =>
    rw [State.deliver_noticesOf, if_pos hh, appendNotice, noticeCapacity, if_neg (Nat.not_lt.2 hl), hq]
    exact markNewest_append older newest
  case attention =>
    refine (attention_iff _ h).2 ⟨ho, ha, ?_⟩
    rw [State.deliver_noticesOf, if_pos hh]
    exact appendNotice_ne_nil _ _

theorem nextNoticeBody_badLength {ops : List Byte} (hops : ops ≠ []) (h : HostId) (s : State) :
    nextNoticeBody h ops s = (s, refuse .badLength) := by
  cases ops with
  | nil => exact absurd rfl hops
  | cons b ops => rfl

@[simp] theorem renewLease_noticesOf (s : State) (h g : HostId) :
    (s.renewLease h).noticesOf g = s.noticesOf g := by
  rw [renewLease_eq]; rfl

@[simp] theorem renewLease_port_ne {s : State} {h g : HostId} (hg : g ≠ h) :
    (s.renewLease h).port g = s.port g := by
  rw [renewLease_eq, State.port_setPort_of, if_neg hg]

@[simp] theorem renewLease_port (s : State) (h : HostId) : (s.renewLease h).port h = (s.port h).renewed := by
  rw [renewLease_eq, State.port_setPort]

/-- A frame whose body, on the state with the lease renewed, changes the state as it would change the state
before: executed, it is replied to on the changed state. -/
theorem exec_of_body_writes {i : Instr} {q : Request} {s u : State} {r : Reply}
    (hi : requestOf i = some q) (ht : q.isTaken s = true) (hcmd : q.cmd ≠ codeClose)
    (hbody : commandBody q.cmd q.port q.operands (s.renewLease q.port) = (u.renewLease q.port, r)) :
    exec i s = .next (u.replied q r.result.code r.data) := by
  rw [exec_request hi, takeFrame_taken ht, hbody]
  exact congrArg _ (answer_store_renewLease hcmd u r)

theorem renewLease_setNotices (s : State) (h g : HostId) (x : List Notice) :
    (s.setNotices g x).renewLease h = (s.renewLease h).setNotices g x := by
  rw [renewLease_eq, renewLease_eq]; rfl

theorem Port.renewed_attention (p : Port) : p.renewed.attention = p.attention := by
  rw [renewed_keeps]

theorem Port.renewed_session (p : Port) : p.renewed.session = p.session := by
  rw [renewed_keeps]

/-- After a reply the port's session and attention enable stand as before. -/
theorem replied_port (s : State) (q : Request) (code : Byte) (data : List Byte) :
    ((s.replied q code data).port q.port).session = (s.port q.port).session ∧
      ((s.replied q code data).port q.port).attention = (s.port q.port).attention := by
  have h (p : Port) (frame : List Byte) : (p.remembers q frame).session = p.session ∧
      (p.remembers q frame).attention = p.attention := by
    unfold Port.remembers
    split <;> exact ⟨rfl, rfl⟩
  simp only [State.replied, State.port_setPort, Port.gives]
  rw [(h _ _).1, (h _ _).2, Port.renewed_session, Port.renewed_attention]
  exact ⟨rfl, rfl⟩

/-- A taken frame's host is OPEN. -/
theorem Request.isTaken_opened {q : Request} {s : State} (h : q.isTaken s = true) :
    (s.port q.port).session = .opened := by
  simp only [Request.isTaken, Bool.and_eq_true, decide_eq_true_eq] at h
  exact h.2

/-- Settles O26: the three cases of the body, and ATTN_N from the queue that is left. -/
theorem nextNoticeTakesTheHead : Obligations.NextNoticeTakesTheHead := by
  intro h seq ops s q ht
  have hcmd : q.cmd ≠ codeClose := by simp only [q]; decide
  refine ⟨fun hops => ?badLength, fun hops hn => ?empty, fun n rest hops hn => ?head⟩
  case badLength => exact exec_of_body_reads (q := q) rfl ht hcmd (nextNoticeBody_badLength hops h _)
  case empty =>
    subst hops
    have hbody : nextNoticeBody h [] (s.renewLease h) = (s.renewLease h, refuse .empty) := by
      simp [nextNoticeBody, hn]
    exact exec_of_body_reads (q := q) rfl ht hcmd hbody
  case head =>
    subst hops
    have hbody : nextNoticeBody h [] (s.renewLease h) =
        ((s.setNotices h rest).renewLease h, okReply (noticeBytes n rest.length)) := by
      simp [nextNoticeBody, hn, renewLease_setNotices]
    refine ⟨_, exec_of_body_writes (q := q) rfl ht hcmd hbody, ?_, ?_⟩
    · obtain ⟨report, _ | l, _ | k, tag, time, lostAfter⟩ := n <;> rfl
    · have hopen : ((s.setNotices h rest).port h).session = .opened := Request.isTaken_opened ht
      obtain ⟨h1, h2⟩ := replied_port (s.setNotices h rest) q Result.ok.code (noticeBytes n rest.length)
      rw [attention_iff]
      have hnot (code : Byte) (data : List Byte) :
          ((s.setNotices h rest).replied q code data).noticesOf h = rest := by
        simp [State.replied]
      change ((State.replied _ q Result.ok.code (noticeBytes n rest.length)).port q.port).session = _ ∧ _ ↔ _
      rw [h1]
      constructor
      · rintro ⟨-, ha, hr⟩
        exact ⟨h2.symm.trans ha, by rwa [hnot] at hr⟩
      · rintro ⟨ha, hr⟩
        exact ⟨hopen, h2.trans ha, by rwa [hnot]⟩

end Sys2Proof.Machine
end

section
/-! PROOFS. Sessions and the lock, the checks of CLAIM, the configuration commands that bring no examination, COMMIT, and the laws right after reset. -/

namespace Sys2Proof.Machine

/-! ### LOCK and UNLOCK -/

theorem lockBody_badLength {ops : List Byte} (hops : ops ≠ []) (h : HostId) (s : State) :
    lockBody h ops s = (s, refuse .badLength) := by
  cases ops with
  | nil => exact absurd rfl hops
  | cons b ops => rfl

theorem unlockBody_badLength {ops : List Byte} (hops : ops ≠ []) (h : HostId) (s : State) :
    unlockBody h ops s = (s, refuse .badLength) := by
  cases ops with
  | nil => exact absurd rfl hops
  | cons b ops => rfl

theorem Port.renewed_leasePeriod (p : Port) : p.renewed.leasePeriod = p.leasePeriod := by
  rw [renewed_keeps]

theorem renewLease_leasePeriod (s : State) (h : HostId) :
    ((s.renewLease h).port h).leasePeriod = (s.port h).leasePeriod := by
  rw [renewLease_port, Port.renewed_leasePeriod]

theorem renewLease_withLock (s : State) (h : HostId) (x : Option HostId) :
    { s.renewLease h with lock := x } = ({ s with lock := x } : State).renewLease h := by
  rw [renewLease_eq, renewLease_eq]
  rfl

theorem withLock_self {s : State} {x : Option HostId} (h : s.lock = x) : { s with lock := x } = s := by
  subst h; rfl

@[simp] theorem holdsLock_iff (s : State) (h : HostId) : s.holdsLock h = true ↔ s.lock = some h := by
  simp [State.holdsLock]

/-- Settles O19: the checks of the two bodies in their order. -/
theorem lockIsTakenAndFreed : Obligations.LockIsTakenAndFreed := by
  intro h seq ops s
  refine ⟨fun ht => ?_, fun ht => ?_⟩
  · have answers {u : State} {r : Reply} (hbody : lockBody h ops (s.renewLease h) = (u.renewLease h, r)) :
        exec (.lock h seq ops) s = .next (u.replied ⟨h, seq, 0x05, ops⟩ r.result.code r.data) :=
      exec_of_body_writes rfl ht (by decide : (0x05 : Byte) ≠ codeClose) hbody
    refine ⟨fun hops => ?badLength, fun hops hp => ?needsLease, fun g hops hp hg hne => ?locked,
      fun hops hp hl => ?taken⟩
    case badLength => exact answers (lockBody_badLength hops h _)
    case needsLease =>
      subst hops
      refine answers (r := refuse .needsLease) ?_
      rw [lockBody, if_pos (by rw [renewLease_leasePeriod, hp])]
    case locked =>
      subst hops
      refine answers (r := ⟨.locked, [hostByte g]⟩) ?_
      rw [lockBody, if_neg (by rwa [renewLease_leasePeriod]), renewLease_lock, hg]
      exact if_neg hne
    case taken =>
      subst hops
      refine answers (u := { s with lock := some h }) (r := okReply [hostByte h]) ?_
      rw [lockBody, if_neg (by rwa [renewLease_leasePeriod]), renewLease_lock]
      rcases hl with hl | hl
      · rw [hl, ← renewLease_withLock s h (some h)]
        rfl
      · rw [withLock_self hl, hl]
        exact if_pos rfl
  · have answers {u : State} {r : Reply} (hbody : unlockBody h ops (s.renewLease h) = (u.renewLease h, r)) :
        exec (.unlock h seq ops) s = .next (u.replied ⟨h, seq, 0x06, ops⟩ r.result.code r.data) :=
      exec_of_body_writes rfl ht (by decide : (0x06 : Byte) ≠ codeClose) hbody
    refine ⟨fun hops => ?badLength, fun hops hl => ?notHolder, fun hops hl => ?freed⟩
    case badLength => exact answers (unlockBody_badLength hops h _)
    case notHolder =>
      subst hops
      refine answers (r := refuse .notHolder) ?_
      rw [unlockBody, if_neg (by simpa using hl)]
    case freed =>
      subst hops
      refine answers (u := { s with lock := none }) (r := okReply []) ?_
      rw [unlockBody, if_pos (by simpa using hl), renewLease_withLock]

/-! ### OPEN -/

/-- A count of one host's records is a count of channels. -/
theorem countClaims_of_host (s : State) (h : HostId) (p : Chan → HostId → Bool) :
    (s.countClaims fun c g => g = h && p c g) =
      (allChans.filter fun c => p c h && (s.claimOf c h).isSome).length := by
  have hone (c : Chan) : (allHosts.filter fun g => (g = h && p c g) && (s.claimOf c g).isSome).length =
      if p c h && (s.claimOf c h).isSome then 1 else 0 := by
    generalize hf : (fun g => p c g && (s.claimOf c g).isSome) = f
    have hfg (g : HostId) : f g = (p c g && (s.claimOf c g).isSome) := by rw [← hf]
    simp only [Bool.and_assoc, ← hfg]
    clear hf hfg
    fin_cases h <;> simp [allHosts, List.filter_cons] <;> split <;> simp
  unfold State.countClaims
  simp only [hone]
  induction allChans with
  | nil => rfl
  | cons c cs ih =>
    simp only [List.map_cons, List.sum_cons, ih, List.filter_cons]
    by_cases hc : (p c h && (s.claimOf c h).isSome) = true
    · rw [if_pos hc, if_pos hc, List.length_cons, Nat.add_comm]
    · rw [if_neg hc, if_neg hc, Nat.zero_add]

theorem isOrphan_eq (s : State) (c : Chan) (h : HostId) :
    s.isOrphan c h = (s.claimOf c h).any fun x => x.state = .orphaned := by
  unfold State.isOrphan
  cases s.claimOf c h <;> rfl

theorem countOrphans_eq (s : State) (h : HostId) :
    (s.countClaims fun c g => g = h && s.isOrphan c g) =
      (allChans.filter fun c => (s.claimOf c h).any fun x => x.state = .orphaned).length := by
  rw [countClaims_of_host s h fun c g => s.isOrphan c g]
  congr 1
  refine List.filter_congr fun c _ => ?_
  rw [isOrphan_eq]
  cases s.claimOf c h <;> simp

/-- An opened port stands as a lease renewal would leave it. -/
theorem openPort_renewLease (s : State) (h : HostId) (period : Nat) (mode : OrphanMode) (att : Bool) :
    (s.openPort h period mode att).renewLease h = s.openPort h period mode att := by
  rw [renewLease_eq]
  have e : ((s.openPort h period mode att).port h).renewed = (s.openPort h period mode att).port h := by
    rw [openPort_port, if_pos rfl]
    by_cases hp : period = 0 <;> simp [Port.renewed, fullLease, hp]
  rw [e, State.setPort_port_self]

theorem renewLease_openPort (s : State) (h : HostId) (period : Nat) (mode : OrphanMode) (att : Bool) :
    (s.renewLease h).openPort h period mode att = s.openPort h period mode att := by
  unfold State.openPort
  rw [renewLease_port, renewed_keeps, renewLease_eq, State.setPort_setPort]

theorem openBody_eq {mode : OrphanMode} {att : Bool} (period : Byte) (h : HostId) (s : State) :
    openBody h [period, match mode with | .keep => 0 | .drop => 1, if att then 1 else 0] s =
      s.takeOpen h period.toNat mode att := by
  cases mode <;> cases att <;> rfl

/-- An executed frame of any command but CLOSE, whose body leaves `u`. -/
theorem exec_of_admitted_body_writes {i : Instr} {q : Request} {s u : State} {r : Reply}
    (hi : requestOf i = some q) (hnew : q.isNew s = true)
    (hadmits : (s.port q.port).session.admits q.cmd = true) (hcmd : q.cmd ≠ codeClose)
    (hbody : commandBody q.cmd q.port q.operands (s.renewLease q.port) = (u.renewLease q.port, r)) :
    exec i s = .next (u.replied q r.result.code r.data) := by
  rw [exec_request hi, takeFrame_new hnew, State.execute, if_pos hadmits, hbody]
  exact congrArg _ (answer_store_renewLease hcmd u r)

theorem admits_open (x : Session) : x.admits codeOpen = true := by
  cases x <;> rfl

theorem renewLease_adopt (s : State) (h : HostId) : (s.adopt h).renewLease h = (s.renewLease h).adopt h := by
  rw [renewLease_eq, renewLease_eq]
  rfl

theorem renewLease_session (s : State) (h : HostId) :
    ((s.renewLease h).port h).session = (s.port h).session := by
  rw [renewLease_port, Port.renewed_session]

theorem openData_eq (s : State) (n : Nat) (lapsed : Bool) : s.openData n lapsed =
    [ResetCause.code s.pm.resetCause] ++ be32 s.pm.loadedGeneration ++
      [byteOf n, boolByte lapsed, hostCode s.lock] := rfl

/-- Settles O17: `takeOpen` in each session state; the lease renewal before it is overwritten. -/
theorem openStartsUpdatesOrAdopts : Obligations.OpenStartsUpdatesOrAdopts := by
  intro h seq period mode att s ops q opened cause holder hnew
  have hopened : s.openPort h period.toNat mode att = opened := rfl
  have hrenew : opened.renewLease h = opened := by rw [← hopened, openPort_renewLease]
  have hcause : ResetCause.code s.pm.resetCause = cause := by
    simp only [cause]
    cases s.pm.resetCause <;> rfl
  have hholder (x : Option HostId) : hostCode x = holder x := by
    simp only [holder]
    cases x <;> rfl
  have answers {u : State} {r : Reply}
      (hbody : (s.renewLease h).takeOpen h period.toNat mode att = (u.renewLease h, r)) :
      exec (.openSession h seq ops) s = .next (u.replied q r.result.code r.data) := by
    refine exec_of_admitted_body_writes (q := q) rfl hnew (admits_open _)
      (by simp only [q]; decide) (Eq.trans ?_ hbody)
    exact openBody_eq period h _
  have htake (x : Session) (hx : (s.port h).session = x) :
      ((s.renewLease h).port h).session = x := by rw [renewLease_session, hx]
  refine ⟨fun hc => ?closed, fun ho hk => ?kept, fun ho hp hl => ?freed, fun hl => ?lapsed⟩
  case closed =>
    have hbody : (s.renewLease h).takeOpen h period.toNat mode att =
        (opened.renewLease h, okReply (opened.openData 0 false)) := by
      simp only [State.takeOpen, htake _ hc, renewLease_openPort, hopened, hrenew]
    rw [answers hbody, ← hcause, ← hholder]
    rfl
  case kept =>
    have hfree : (if period.toNat = 0 then opened.freeLock h else opened) = opened := by
      split
      · rename_i hz
        rcases hk with hk | hk
        · exact absurd hz hk
        · exact if_neg (by rw [holdsLock_iff]; exact hk)
      · rfl
    have hbody : (s.renewLease h).takeOpen h period.toNat mode att =
        (opened.renewLease h, okReply (opened.openData 0 false)) := by
      simp only [State.takeOpen, htake _ ho, renewLease_openPort, hopened, hrenew, hfree]
    rw [answers hbody, ← hcause, ← hholder]
    rfl
  case freed =>
    have hfree : opened.freeLock h = { opened with lock := none } := if_pos ((holdsLock_iff opened h).2 hl)
    have hbody : (s.renewLease h).takeOpen h period.toNat mode att =
        (({ opened with lock := none } : State).renewLease h,
          okReply (({ opened with lock := none } : State).openData 0 false)) := by
      rw [← renewLease_withLock opened h none, hrenew, ← hfree]
      simp only [State.takeOpen, htake _ ho, renewLease_openPort, hopened, if_pos hp]
    rw [answers hbody, ← hcause]
    rfl
  case lapsed =>
    have hcount : ((s.renewLease h).countClaims fun c g => g = h && (s.renewLease h).isOrphan c g) =
        (allChans.filter fun c => (s.claimOf c h).any fun x => x.state = .orphaned).length := by
      rw [countOrphans_eq, renewLease_eq]
      rfl
    have hbody : (s.renewLease h).takeOpen h period.toNat mode att =
        ((opened.adopt h).renewLease h, okReply ((opened.adopt h).openData
          (allChans.filter fun c => (s.claimOf c h).any fun x => x.state = .orphaned).length true)) := by
      simp only [State.takeOpen, htake _ hl, renewLease_openPort, hopened, renewLease_adopt, hrenew, hcount]
    refine ⟨_, answers hbody, fun c g => ?_, ?_⟩
    · exact adopt_claimOf opened h c g
    · rw [← hcause, ← hholder]
      rfl

/-! ### The checks of CLAIM -/

theorem claimBody_badLength {ops : List Byte} (hl : ops.length ≠ 4) (h : HostId) (s : State) :
    claimBody h ops s = (s, refuse .badLength) := by
  unfold claimBody
  split
  · exact absurd rfl hl
  · rfl

theorem rangeOperand_eq {lo hi : Nat} {b : Byte} (h1 : lo ≤ b.toNat) (h2 : b.toNat ≤ hi) :
    rangeOperand lo hi b = some b.toNat := if_pos ⟨h1, h2⟩

theorem rangeOperand_eq_none {lo hi : Nat} {b : Byte} (h : b.toNat < lo ∨ hi < b.toNat) :
    rangeOperand lo hi b = none := if_neg (by omega)

theorem claimBody_badValue {b p : Byte} (hb : 15 < b.toNat ∨ 7 < p.toNat) (t1 t0 : Byte) (h : HostId)
    (s : State) : claimBody h [b, p, t1, t0] s = (s, refuse .badValue) := by
  rcases hb with hb | hp
  · simp [claimBody, chanOperand_eq_none hb]
  · simp [claimBody, rangeOperand_eq_none (Or.inr hp)]

theorem claimBody_checked (l : Chan) {p : Byte} (hp : p.toNat ≤ 7) (t1 t0 : Byte) (h : HostId) (s : State) :
    claimBody h [chanByte l, p, t1, t0] s = claimChecked h l p.toNat (word16 t1 t0) s := by
  simp [claimBody, rangeOperand_eq (Nat.zero_le _) hp]

@[simp] theorem renewLease_viewEntry (s : State) (h g : HostId) (l : Chan) :
    (s.renewLease h).viewEntry g l = s.viewEntry g l := by
  rw [renewLease_eq]; rfl

/-- Settles O22: the checks in the order of `claimChecked`, each handing the state back. -/
theorem claimChecksInOrder : Obligations.ClaimChecksInOrder := by
  intro h seq ops s q ht
  have answers {r : Reply} (hbody : claimBody h ops (s.renewLease h) = (s.renewLease h, r)) :
      exec (.claim h seq ops) s = .next (s.replied q r.result.code r.data) :=
    exec_of_body_reads (q := q) rfl ht (by simp only [q]; decide) hbody
  refine ⟨fun hl => answers (claimBody_badLength hl h _), fun b p t1 t0 hops => ?_⟩
  subst hops
  refine ⟨fun hb => answers (claimBody_badValue hb t1 t0 h _), fun l hb hp => ?_⟩
  subst hb
  have checked {r : Reply} (hbody : claimChecked h l p.toNat (word16 t1 t0) (s.renewLease h) =
      (s.renewLease h, r)) := answers ((claimBody_checked l hp t1 t0 h _).trans hbody)
  refine ⟨fun hv => ?unmapped, fun c hv => ⟨fun hc => ?notClaimable, fun ha hpol hadm => ?notPermitted⟩⟩
  case unmapped => exact checked (r := refuse .unmapped) (by simp [claimChecked, hv])
  case notClaimable =>
    refine checked (r := refuse .notClaimable) ?_
    by_cases ha : (s.cfg c).admin = .retired
    · simp [claimChecked, hv, ha]
    · have hpol := hc.resolve_left ha
      simp [claimChecked, hv, ha, hpol]
  case notPermitted =>
    refine checked (r := refuse .notPermitted) ?_
    have hn : ¬ ((s.cfg c).policy = .line ∨ (s.cfg c).policy = .pinned) := by
      rcases hpol with e | e <;> simp [e]
    have hset : ChannelConfig.admits (s.cfg c) h = false := hadm
    simp [claimChecked, hv, ha, hn, hset]

end Sys2Proof.Machine
end

section
/-! PROOFS. The configuration commands that bring no examination, COMMIT, and the laws right after reset. -/

namespace Sys2Proof.Machine

/-! ### SET_CHANNEL_FAULT -/

@[simp] theorem faultSourceOperand_code (x : FaultSource) : faultSourceOperand (faultSourceCode x) = some x := by
  cases x with
  | xf k => revert k; decide
  | senseXf k => revert k; decide
  | _ => rfl

@[simp] theorem rangeOperand_retryLimit (n : Fin 8) : rangeOperand 0 7 (BitVec.ofNat 8 n.val) = some n.val := by
  revert n; decide

theorem byte_toNat_le (b : Byte) : b.toNat ≤ 255 := Nat.le_of_lt_succ b.isLt

theorem configurable_eq_true {x : ChannelState} (h : x = .off ∨ x = .latched ∨ x = .retired) :
    x.configurable = true := by
  rcases h with rfl | rfl | rfl <;> rfl

theorem configurable_eq_false {x : ChannelState} (h1 : x ≠ .off) (h2 : x ≠ .latched) (h3 : x ≠ .retired) :
    x.configurable = false := by
  cases x <;> simp_all [ChannelState.configurable]

theorem faultOperands_eq {base time : Byte} (hb : 1 ≤ base.toNat) (ht : 1 ≤ time.toNat) (thr : Byte)
    (limit : Fin 8) (source : FaultSource) (action : DetachAction) (c : Chan) (s : State) :
    faultOperands s [chanByte c, faultSourceCode source, BitVec.ofNat 8 limit.val, base, thr, time,
      actionCode action] = some (c, { s.cfg c with
        faultSource := source, retryLimit := limit.val, backoffBase := base.toNat
        detachThreshold := thr.toNat, detachTime := time.toNat, detachAction := action }) := by
  simp only [faultOperands, chanOperand_chanByte, faultSourceOperand_code, rangeOperand_retryLimit,
    rangeOperand_eq hb (byte_toNat_le base), rangeOperand_eq ht (byte_toNat_le time)]
  cases action <;> rfl

theorem setChannelFaultBody_eq {h : HostId} {ops : List Byte} {s : State} {c : Chan} {f : ChannelConfig}
    (hl : s.lock = some h) (hlen : ops.length = 7) (hops : faultOperands s ops = some (c, f)) :
    setChannelFaultBody h ops s =
      if (s.ctl c).state.configurable then
        ((s.setCfg c f).applyRetryLimit c, okReply (((s.setCfg c f).applyRetryLimit c).statusData c))
      else (s, refuse .channelActive) := by
  rw [setChannelFaultBody, if_pos ((holdsLock_iff s h).2 hl), if_pos hlen, hops]

@[simp] theorem renewLease_ctl (s : State) (h : HostId) (c : Chan) : (s.renewLease h).ctl c = s.ctl c := by
  rw [renewLease_eq]; rfl

theorem renewLease_setCfg (s : State) (h : HostId) (c : Chan) (f : ChannelConfig) :
    (s.setCfg c f).renewLease h = (s.renewLease h).setCfg c f := by
  rw [renewLease_eq, renewLease_eq]; rfl

theorem renewLease_setCtl (s : State) (h : HostId) (c : Chan) (k : Controller) :
    (s.setCtl c k).renewLease h = (s.renewLease h).setCtl c k := by
  rw [renewLease_eq, renewLease_eq]; rfl

@[simp] theorem setCtl_ctl_self (s : State) (c : Chan) : s.setCtl c (s.ctl c) = s := by
  simp [State.setCtl, State.ctl]

/-- The retry limit of the record written reaches a LATCHED controller, and no other. -/
theorem applyRetryLimit_setCfg (s : State) (c : Chan) (f : ChannelConfig) :
    (s.setCfg c f).applyRetryLimit c = (s.setCfg c f).setCtl c { s.ctl c with
      retryCount := if (s.ctl c).state = .latched then f.retryLimit + 1 else (s.ctl c).retryCount } := by
  unfold State.applyRetryLimit
  simp only [State.setCfg_ctl, State.cfg_setCfg]
  by_cases h : (s.ctl c).state = .latched
  · simp [h]
  · rw [if_neg h, if_neg h]
    exact (setCtl_ctl_self (s.setCfg c f) c).symm

/-- Settles O33: operands in range and the channel OFF, LATCHED or RETIRED, the body writes record and count. -/
theorem retryLimitReachesALatchedChannel : Obligations.RetryLimitReachesALatchedChannel := by
  intro h seq src base thr time limit source action c s ops q ht hl hsrc hb htime
  subst hsrc
  have answers {u : State} {r : Reply}
      (hbody : setChannelFaultBody h ops (s.renewLease h) = (u.renewLease h, r)) :
      exec (.setChannelFault h seq ops) s = .next (u.replied q r.result.code r.data) :=
    exec_of_body_writes (q := q) rfl ht (by simp only [q]; decide) hbody
  have hops : faultOperands (s.renewLease h) ops = some (c, { s.cfg c with
      faultSource := source, retryLimit := limit.val, backoffBase := base.toNat
      detachThreshold := thr.toNat, detachTime := time.toNat, detachAction := action }) := by
    rw [← renewLease_cfg s h c, ← faultOperands_eq hb htime thr limit source action]
    cases action <;> rfl
  have hbody := setChannelFaultBody_eq (by simpa using hl) rfl hops
  refine ⟨fun h1 h2 h3 => ?active, fun hst => ?written⟩
  case active =>
    refine answers (r := refuse .channelActive) ?_
    rw [hbody, if_neg (by simp [configurable_eq_false h1 h2 h3])]
  case written =>
    refine answers (u := (s.setCfg c { s.cfg c with
          faultSource := source, retryLimit := limit.val, backoffBase := base.toNat
          detachThreshold := thr.toNat, detachTime := time.toNat, detachAction := action }).setCtl c
        { s.ctl c with
          retryCount := if (s.ctl c).state = .latched then limit.val + 1
            else (s.ctl c).retryCount })
      (r := okReply [(s.ctl c).state.code, adminCode (s.cfg c).admin]) ?_
    rw [hbody, if_pos (by rw [renewLease_ctl]; exact configurable_eq_true hst), applyRetryLimit_setCfg,
      renewLease_setCtl, renewLease_setCfg]
    simp [State.statusData]

/-! ### SET_VIEW_ENTRY -/

@[simp] theorem optionalChanOperand_chanCode (x : Option Chan) :
    optionalChanOperand (chanCode x) = some x := by
  cases x with
  | none => rfl
  | some c => revert c; decide

@[simp] theorem flagOperand_boolByte (b : Bool) : flagOperand (boolByte b) = some b := by
  cases b <;> rfl

theorem claimPresent_iff (s : State) (g : HostId) (l : Chan) (new : Option Chan) :
    s.claimPresent g l new = true ↔
      ∃ c, (s.viewEntry g l).physical = some c ∧ new ≠ some c ∧ (s.claimOf c g).isSome = true := by
  unfold State.claimPresent
  cases (s.viewEntry g l).physical <;> simp

theorem duplicateMap_iff (s : State) (g : HostId) (l : Chan) (new : Option Chan) :
    s.duplicateMap g l new = true ↔ new ≠ none ∧ new ≠ (s.viewEntry g l).physical ∧
      ∃ m, m ≠ l ∧ (s.viewEntry g m).physical = new := by
  simp [State.duplicateMap, Option.isSome_iff_ne_none, and_assoc]

/-- Settles O34: the checks in the body's order, then `setViewEntry`. -/
theorem viewEntriesAreWritten : Obligations.ViewEntriesAreWritten := by
  intro h g seq l new watch s ops q ht hl
  have answers {u : State} {r : Reply}
      (hbody : setViewEntryBody h ops (s.renewLease h) = (u.renewLease h, r)) :
      exec (.setViewEntry h seq ops) s = .next (u.replied q r.result.code r.data) :=
    exec_of_body_writes (q := q) rfl ht (by simp only [q]; decide) hbody
  have hhold : (s.renewLease h).holdsLock h = true := by simpa using hl
  have hbody : setViewEntryBody h ops (s.renewLease h) =
      if (s.renewLease h).claimPresent g l new then (s.renewLease h, refuse .claimPresent)
      else if (s.renewLease h).duplicateMap g l new then (s.renewLease h, refuse .duplicateMap)
      else ((s.renewLease h).setViewEntry g l ⟨new, watch⟩, okReply (viewEntryBytes ⟨new, watch⟩)) := by
    have hops : ops = [hostByte g, chanByte l, chanCode new, boolByte watch] := by
      cases new <;> rfl
    simp only [hops, setViewEntryBody, hhold, if_true, fourOperand_hostByte, chanOperand_chanByte,
      optionalChanOperand_chanCode, flagOperand_boolByte]
  have hpresent : (s.renewLease h).claimPresent g l new = s.claimPresent g l new := by
    rw [renewLease_eq]; rfl
  have hdup : (s.renewLease h).duplicateMap g l new = s.duplicateMap g l new := by
    rw [renewLease_eq]; rfl
  rw [hpresent, hdup] at hbody
  refine ⟨fun c hv hne hsome => ?claimPresent, fun hfree => ?_⟩
  case claimPresent =>
    refine answers (r := refuse .claimPresent) ?_
    rw [hbody, if_pos ((claimPresent_iff s g l new).2 ⟨c, hv, hne, hsome⟩)]
  have hno : ¬ s.claimPresent g l new = true := by
    rw [claimPresent_iff]
    rintro ⟨c, hv, hne, hsome⟩
    rw [hfree c hv hne] at hsome
    cases hsome
  rw [if_neg hno] at hbody
  refine ⟨fun m c hnew hne hm hv => ?duplicate, fun hok => ?written⟩
  case duplicate =>
    refine answers (r := refuse .duplicateMap) ?_
    rw [hbody, if_pos ((duplicateMap_iff s g l new).2 ⟨by simp [hnew], hne, m, hm, by rw [hv, hnew]⟩)]
  case written =>
    have hnodup : ¬ s.duplicateMap g l new = true := by
      rw [duplicateMap_iff]
      rintro ⟨hsome, hne, m, hm, hv⟩
      rcases hok with e | e | e
      · exact hne e
      · exact hsome e
      · exact e m hm hv
    rw [if_neg hnodup] at hbody
    rw [answers (u := s.setViewEntry g l ⟨new, watch⟩) (r := okReply (viewEntryBytes ⟨new, watch⟩))
      (by rw [hbody, renewLease_eq, renewLease_eq]; rfl)]
    cases new <;> rfl

/-! ### COMMIT -/

theorem commitBody_badLength {ops : List Byte} (hops : ops ≠ []) {h : HostId} {s : State}
    (hl : s.holdsLock h = true) : commitBody h ops s = (s, refuse .badLength) := by
  cases ops with
  | nil => exact absurd rfl hops
  | cons b ops => exact if_pos hl

/-- The target is the slot that the manual names (R201). -/
theorem target_eq {m : ProfileMemory} {i : SlotId}
    (h : m.currentGeneration = 0 ∧ i = .slot0 ∨
      m.currentGeneration ≠ 0 ∧ ∃ j, m.currentSlot = some j ∧ i ≠ j) : m.target = i := by
  rcases h with ⟨h0, rfl⟩ | ⟨h0, j, hj, hne⟩
  · simp [ProfileMemory.target, h0]
  · rw [ProfileMemory.target, if_neg h0, hj]
    cases i <;> cases j <;> simp_all [SlotId.other]

/-- Settles O36: the checks in the body's order, then `takeCommit` on the target. -/
theorem commitErasesTheOtherSlot : Obligations.CommitErasesTheOtherSlot := by
  intro h seq ops s q ht hl
  have answers {u : State} {r : Reply} (hbody : commitBody h ops (s.renewLease h) = (u.renewLease h, r)) :
      exec (.commit h seq ops) s = .next (u.replied q r.result.code r.data) :=
    exec_of_body_writes (q := q) rfl ht (by simp only [q]; decide) hbody
  have hhold : (s.renewLease h).holdsLock h = true := by simpa using hl
  have hpm : (s.renewLease h).pm = s.pm := by rw [renewLease_eq]; rfl
  refine ⟨fun hops => answers (commitBody_badLength hops hhold), fun job hops hj => ?busy,
    fun hops hi hg => ?last, fun i hops hi hg htarget => ?accepted⟩
  all_goals subst hops
  case busy =>
    refine answers (r := refuse .busy) ?_
    simp only [commitBody, hhold, if_true, hpm, hj]
  case last =>
    refine answers (r := refuse .badValue) ?_
    simp only [commitBody, hhold, if_true, hpm, hi]
    exact if_pos hg
  case accepted =>
    refine answers (u := { s with
        pm := { (s.pm.setSlot i ⟨0xFFFFFFFF#32, none, 0⟩).setValid i false with
          store := .writing ⟨i, s.pm.currentGeneration + 1, s.config, h, 0⟩ } })
      (r := okReply (be32 (s.pm.currentGeneration + 1))) ?_
    simp only [commitBody, hhold, if_true, hpm, hi]
    have hlast : ¬ s.pm.currentGeneration = lastGeneration := hg
    rw [if_neg hlast, State.takeCommit, hpm, target_eq htarget, renewLease_eq, renewLease_eq]
    rfl

/-- Settles O37: both outcomes of `endCommit`, and its one record. -/
theorem commitCompletesOrFails : Obligations.CommitCompletesOrFails := by
  intro verified job s hj hage
  have hexec : exec (.commitCompletion verified) s = .next (s.endCommit job verified) := by
    have hmin : commitMin ≤ job.age := hage
    simp only [exec, execCommitCompletion, hj, if_pos hmin]
  refine ⟨_, hexec, ?_⟩
  have hgiven (t : State) (ht : t.ports = s.ports ∧ t.notices = s.notices ∧ t.deviceTime = s.deviceTime)
      (x : Report) (g : HostId) : (t.reportCommit job.requester x).noticesOf g =
        if g = job.requester ∧ (s.port g).session = .opened then
          appendNotice (s.noticesOf g)
            { report := x, logical := none, newState := none, tag := 0, time := s.deviceTime
              lostAfter := false }
        else s.noticesOf g := by
    obtain ⟨hp, hn, hd⟩ := ht
    have hport : t.port g = s.port g := by rw [State.port, hp]; rfl
    have hnot : t.noticesOf g = s.noticesOf g := by rw [State.noticesOf, hn]; rfl
    rw [State.reportCommit, State.deliver_noticesOf, hport, hnot, hd]
    simp
  cases verified with
  | true => exact ⟨rfl, rfl, fun g => hgiven _ ⟨rfl, rfl, rfl⟩ (.commitDone job.generation) g⟩
  | false => exact ⟨rfl, rfl, fun g => hgiven _ ⟨rfl, rfl, rfl⟩ (.commitFailed job.generation) g⟩

/-! ### Right after reset -/

@[simp] theorem reset_ctl (c : Chan) : State.reset.ctl c = Controller.atReset := by
  simp [State.ctl, State.reset]

@[simp] theorem reset_cfg (c : Chan) : State.reset.cfg c = ChannelConfig.default := by
  simp [State.cfg, State.reset, Configuration.default]

@[simp] theorem reset_claimOf (c : Chan) (h : HostId) : State.reset.claimOf c h = none := by
  simp [State.claimOf, State.reset]

@[simp] theorem reset_account (r : Rail) : State.reset.account r = ⟨0, []⟩ := by
  cases r <;> rfl

@[simp] theorem reset_dem (c : Chan) : State.reset.dem c = Demand.absent := by
  simp [State.dem, State.reset]

theorem reset_noticeLaw : NoticeLaw State.reset := by
  intro h
  simp [State.noticesOf, State.reset]

theorem reset_lockLaw : LockLaw State.reset := lockLaw_of_lock_none rfl

theorem reset_chargeLaw : ChargeLaw State.reset := by
  refine ⟨fun c => ?_, fun r x hx => ?_, fun r => ?_, by decide, by decide⟩
  · simp [Controller.atReset, ChannelState.charged]
  · simp at hx
  · simp

theorem reset_queueLaw : QueueLaw State.reset := by
  have hq : State.reset.queue = [] := rfl
  refine ⟨fun c => ?_, ?_, ?_, ?_, ?_⟩ <;> simp [hq, Controller.atReset]

theorem reset_retryLaw : RetryLaw State.reset := by
  intro c
  simp [Controller.atReset]

/-- Without a claim, a channel of the default record has no demand. -/
theorem reset_ownDemand (c : Chan) : State.reset.ownDemand c = false := by
  simp [State.ownDemand, ChannelConfig.default]

theorem reset_children (c : Chan) : State.reset.children c = [] := by
  simp [State.children, ChannelConfig.default]

theorem reset_demandNow (c : Chan) : State.reset.demandNow c = Demand.absent := by
  have heff (n : Nat) : State.reset.effectiveDemand n c = false := by
    cases n <;> simp [State.effectiveDemand, reset_ownDemand, reset_children]
  have hprio : State.reset.effectivePriority treeDepth c = 0 := by
    unfold treeDepth State.effectivePriority
    rw [heff]
    simp [ChannelConfig.default]
  simp [State.demandNow, reset_ownDemand, State.ownPriority, heff, hprio, Demand.absent]

theorem reset_demandLaw : DemandLaw State.reset := by
  intro c
  rw [reset_demandNow]
  simp [Controller.atReset, Demand.absent]

theorem reset_wantedLaw : WantedLaw State.reset := by
  have hq : State.reset.queue = [] := rfl
  refine ⟨fun c => ?_, fun c => ?_, ?_⟩ <;> simp [hq, Controller.atReset, ChannelState.charged]

theorem reset_profileLaw : ProfileLaw State.reset := by
  refine ⟨?_, by decide, ?_, ?_, ?_⟩ <;> simp [State.reset, ProfileMemory.inReset]

theorem reset_configurationLaw : State.reset.everyConfiguration ConfigurationLaw := by
  refine ⟨configurationLaw_default, fun i x hx => ?_, fun job hj => ?_⟩
  · cases i <;> simp [State.reset, ProfileMemory.inReset, ProfileMemory.slot, Slot.erased] at hx
  · simp [State.reset, ProfileMemory.inReset] at hj

theorem reset_loadingLaw : LoadingLaw State.reset := by
  intro _
  refine ⟨rfl, fun h => ?_⟩
  simp [State.port, State.reset, Port.atReset]

/-- Settles O60: each law on the tables of `State.reset`. -/
theorem resetMeetsTheLaws : Obligations.ResetMeetsTheLaws :=
  ⟨reset_loadingLaw, reset_noticeLaw, reset_lockLaw, fun r => by rw [reset_account]; exact Nat.le_refl 0,
    fun r => by cases r <;> rfl, reset_configurationLaw, fun c h x hx => by simp at hx,
    ⟨reset_queueLaw, reset_chargeLaw⟩, reset_retryLaw, reset_demandLaw, reset_wantedLaw,
    fun c p hc => by simp [Controller.atReset, ChannelState.charged] at hc, reset_profileLaw⟩

end Sys2Proof.Machine
end

section
/-! PROOFS. What a controller's transition does to the queue and the accounts: one lemma per transition. -/

namespace Sys2Proof.Machine

/-! ### Controllers, apart from the state they stand in -/

/-- The demand item is present and the record ENABLED (R54, R55). -/
def Controller.wantedBy (k : Controller) (f : ChannelConfig) : Bool := k.demand && f.admin = .enabled

/-- OFF, and on to QUEUED if the channel is wanted (R54, R55). -/
def Controller.rested (k : Controller) (f : ChannelConfig) : Controller :=
  { k with
    state := if k.wantedBy f then .queued else .off
    retryCount := 0, chargedRail := none }

/-- The end of a discharge in STOPPING, or of a retry wait (R67, R106). -/
def Controller.waitEnded (k : Controller) (f : ChannelConfig) : Controller :=
  if k.wantedBy f then { k with state := .queued } else k.rested f

/-- STOPPING, the discharge started (R65). -/
def Controller.halted (k : Controller) (f : ChannelConfig) : Controller :=
  { k with
    state := .stopping, sub := .noSub, chargedRail := none
    softStart := none, blanking := none, stable := none, deadTime := none
    discharge := startTimer f.dischargeTime }

/-- A stop, the discharge over at once where its time is 0 (R65, R67). -/
def Controller.stopped (k : Controller) (f : ChannelConfig) : Controller :=
  if f.dischargeTime = 0 then (k.halted f).waitEnded f else k.halted f

/-- A fault: RETRY_WAIT, or LATCHED past the retry limit (R100 to R103). -/
def Controller.faulted (k : Controller) (f : ChannelConfig) (cause : FaultCause) : Controller :=
  { k with
    state := if f.retryLimit < k.retryCount + 1 then .latched else .retryWait
    sub := .noSub, chargedRail := none, retryCount := k.retryCount + 1, lastFault := some cause
    softStart := none, blanking := none, stable := none
    discharge := startTimer f.dischargeTime
    backoff := if f.retryLimit < k.retryCount + 1 then none
      else some (backoffTime f.backoffBase (k.retryCount + 1)) }

/-- SOFTSTART on the charged rail (R57, R126). -/
def Controller.started (k : Controller) (f : ChannelConfig) : Controller :=
  { k with
    state := .softstart
    sub := if f.blanking = 0 then .ramp else .blanking
    softStart := some f.softStart
    blanking := startTimer f.blanking
    deadTime := none }

/-- The early end of a retry wait (R107). -/
def Controller.abandoned (k : Controller) (f : ChannelConfig) : Controller :=
  if k.discharge.isSome then { k with state := .stopping, backoff := none }
  else Controller.rested { k with state := .stopping, backoff := none } f

/-- A demand arrival (R16, R54, R56). -/
def Controller.arrived (k : Controller) (f : ChannelConfig) : Controller :=
  { k with
    demand := true
    state := if k.state = .off ∧ f.admin = .enabled then .queued else k.state }

/-- A demand loss (R16, R56, R61, R64, R107, R125). -/
def Controller.lost (k : Controller) (f : ChannelConfig) : Controller :=
  match k.state with
  | .queued => Controller.rested { k with demand := false } f
  | .softstart | .isOn | .switchover => Controller.stopped { k with demand := false } f
  | .retryWait => Controller.abandoned { k with demand := false } f
  | .retired | .off | .stopping | .latched => { k with demand := false }

/-! ### A transition with its queue entry and its charge -/

/-- The queue once channel `c` stands in state `x`: an entry goes with QUEUED (R28, R30, R31). -/
def State.requeued (s : State) (c : Chan) (x : ChannelState) : List QueueEntry :=
  if x = .queued then
    if (s.ctl c).state = .queued then s.queue
    else insertBy QueueEntry.precedes ⟨c, (s.dem c).priority, s.admissionCounter⟩ s.queue
  else if (s.ctl c).state = .queued then s.queue.filter fun e => e.chan ≠ c
  else s.queue

/-- The admission counter likewise (R30). -/
def State.recounted (s : State) (c : Chan) (x : ChannelState) : Nat :=
  if x = .queued ∧ (s.ctl c).state ≠ .queued then s.admissionCounter + 1 else s.admissionCounter

/-- The account of a rail once channel `c` stands in state `x`: a charge goes with the charged states (R26). -/
def State.recharged (s : State) (c : Chan) (x : ChannelState) (r : Rail) : Account :=
  if (s.ctl c).state.charged = true ∧ x.charged = false then (s.account r).without c else s.account r

/-- From `s` to `t` the controller of `c` turns to `k`, its queue entry and its charge follow its state, and of the
other controllers, the demand values, the records and the grant counter nothing changes. -/
structure Turns (s t : State) (c : Chan) (k : Controller) : Prop where
  ctl : ∀ j, t.ctl j = if j = c then k else s.ctl j
  queue : t.queue = s.requeued c k.state
  admission : t.admissionCounter = s.recounted c k.state
  account : ∀ r, t.account r = s.recharged c k.state r
  demand : t.demand = s.demand
  config : t.config = s.config
  grants : t.grantCounter = s.grantCounter

theorem Turns.ctl_self {s t : State} {c : Chan} {k : Controller} (h : Turns s t c k) : t.ctl c = k := by
  rw [h.ctl, if_pos rfl]

theorem Turns.ctl_ne {s t : State} {c j : Chan} {k : Controller} (h : Turns s t c k) (hj : j ≠ c) :
    t.ctl j = s.ctl j := by
  rw [h.ctl, if_neg hj]

theorem Turns.cfg {s t : State} {c : Chan} {k : Controller} (h : Turns s t c k) (j : Chan) :
    t.cfg j = s.cfg j := by simp [State.cfg, h.config]

theorem Turns.dem {s t : State} {c : Chan} {k : Controller} (h : Turns s t c k) (j : Chan) :
    t.dem j = s.dem j := by simp [State.dem, h.demand]

/-- What follows and touches neither controllers, queue, accounts, demand values, records nor counters. -/
structure SameCore (s t : State) : Prop where
  channels : t.channels = s.channels
  queue : t.queue = s.queue
  admission : t.admissionCounter = s.admissionCounter
  accounts : t.accounts = s.accounts
  demand : t.demand = s.demand
  config : t.config = s.config
  grants : t.grantCounter = s.grantCounter

theorem SameCore.refl (s : State) : SameCore s s := ⟨rfl, rfl, rfl, rfl, rfl, rfl, rfl⟩

theorem SameCore.trans {s t u : State} (h : SameCore s t) (k : SameCore t u) : SameCore s u :=
  ⟨k.channels.trans h.channels, k.queue.trans h.queue, k.admission.trans h.admission,
    k.accounts.trans h.accounts, k.demand.trans h.demand, k.config.trans h.config,
    k.grants.trans h.grants⟩

theorem sameCore_deliver (s : State) (hosts : HostId → Bool) (record : HostId → Notice) :
    SameCore s (s.deliver hosts record) := ⟨rfl, rfl, rfl, rfl, rfl, rfl, rfl⟩

theorem sameCore_reportChannel (s : State) (c : Chan) (x : Report) :
    SameCore s (s.reportChannel c x) := sameCore_deliver s _ _

theorem sameCore_setSen (s : State) (c : Chan) (x : ChannelSense) : SameCore s (s.setSen c x) :=
  ⟨rfl, rfl, rfl, rfl, rfl, rfl, rfl⟩

theorem sameCore_draw (s : State) (n : Nat) : SameCore s { s with draws := n } :=
  ⟨rfl, rfl, rfl, rfl, rfl, rfl, rfl⟩

theorem SameCore.ctl {s t : State} (h : SameCore s t) (c : Chan) : t.ctl c = s.ctl c := by
  simp [State.ctl, h.channels]

theorem SameCore.cfg {s t : State} (h : SameCore s t) (c : Chan) : t.cfg c = s.cfg c := by
  simp [State.cfg, h.config]

theorem SameCore.dem {s t : State} (h : SameCore s t) (c : Chan) : t.dem c = s.dem c := by
  simp [State.dem, h.demand]

theorem SameCore.account {s t : State} (h : SameCore s t) (r : Rail) : t.account r = s.account r := by
  simp [State.account, h.accounts]

theorem Turns.then_same {s t u : State} {c : Chan} {k : Controller} (h : Turns s t c k)
    (e : SameCore t u) : Turns s u c k :=
  ⟨fun j => (e.ctl j).trans (h.ctl j), e.queue.trans h.queue, e.admission.trans h.admission,
    fun r => (e.account r).trans (h.account r), e.demand.trans h.demand, e.config.trans h.config,
    e.grants.trans h.grants⟩

/-! ### The primitive transitions -/

@[simp] theorem ChannelState.charged_of_closed {x : ChannelState} (h : x.closed = true) :
    x.charged = true := by cases x <;> simp_all [ChannelState.closed, ChannelState.charged]

theorem ChannelState.ne_queued_of_charged {x : ChannelState} (h : x.charged = true) : x ≠ .queued := by
  rintro rfl; cases h

/-- A controller rewritten in a state that keeps entry and charge. -/
theorem turns_setCtl {s : State} {c : Chan} {k : Controller}
    (hq : k.state = .queued ↔ (s.ctl c).state = .queued)
    (hc : (s.ctl c).state.charged = true → k.state.charged = true) : Turns s (s.setCtl c k) c k := by
  refine ⟨fun j => State.ctl_setCtl_of s c j k, ?_, ?_, fun r => ?_, rfl, rfl, rfl⟩
  · unfold State.requeued
    by_cases h : (s.ctl c).state = .queued
    · simp [h, hq.2 h]
    · simp [h, mt hq.1 h]
  · simp [State.recounted, hq]
  · rw [State.recharged, if_neg (fun h => by rw [hc h.1] at h; cases h.2)]
    rfl

@[simp] theorem setCtl_setCtl (s : State) (c : Chan) (k k' : Controller) :
    (s.setCtl c k).setCtl c k' = s.setCtl c k' := by
  simp [State.setCtl]

/-- Whether a rewritten controller's channel is wanted. -/
theorem wanted_setCtl (s : State) (c : Chan) (k : Controller) :
    (s.setCtl c k).wanted c = k.wantedBy (s.cfg c) := by
  unfold State.wanted Controller.wantedBy
  rw [State.ctl_setCtl, State.setCtl_cfg]

/-- Entry to QUEUED from a state without entry and charge. -/
theorem turns_enterQueued {s : State} {c : Chan} (k : Controller) (hq : (s.ctl c).state ≠ .queued)
    (hc : (s.ctl c).state.charged = false) :
    Turns s ((s.setCtl c k).enterQueued c) c { k with state := .queued } := by
  refine ⟨fun j => ?_, ?_, ?_, fun r => ?_, rfl, rfl, rfl⟩
  · have h1 : ((s.setCtl c k).enterQueued c).ctl j =
        ((s.setCtl c k).setCtl c { (s.setCtl c k).ctl c with state := .queued }).ctl j := rfl
    rw [h1, State.ctl_setCtl, setCtl_setCtl, State.ctl_setCtl_of]
  · simp [State.requeued, hq, State.enterQueued, State.enqueue]
  · simp [State.recounted, hq, State.enterQueued, State.enqueue]
  · rw [State.recharged, if_neg (by simp [hc])]
    rfl

theorem turns_enterOff {s : State} {c : Chan} (k : Controller) (hq : (s.ctl c).state ≠ .queued)
    (hc : (s.ctl c).state.charged = false) :
    Turns s ((s.setCtl c k).enterOff c) c (k.rested (s.cfg c)) := by
  unfold State.enterOff
  dsimp only
  rw [State.ctl_setCtl, setCtl_setCtl, wanted_setCtl]
  change Turns s (if k.wantedBy (s.cfg c) = true then _ else _) c _
  by_cases hx : k.wantedBy (s.cfg c) = true
  · rw [if_pos hx]
    have hr : k.rested (s.cfg c) = { k with state := .queued, retryCount := 0, chargedRail := none } := by
      simp [Controller.rested, hx]
    rw [hr]
    exact turns_enterQueued { k with state := .off, retryCount := 0, chargedRail := none } hq hc
  · rw [if_neg hx]
    have hr : k.rested (s.cfg c) = { k with state := .off, retryCount := 0, chargedRail := none } := by
      simp [Controller.rested, hx]
    rw [hr]
    exact turns_setCtl (by simp [hq]) (by simp [hc])

theorem turns_endWait {s : State} {c : Chan} (k : Controller) (hq : (s.ctl c).state ≠ .queued)
    (hc : (s.ctl c).state.charged = false) :
    Turns s ((s.setCtl c k).endWait c) c (k.waitEnded (s.cfg c)) := by
  unfold State.endWait Controller.waitEnded
  rw [wanted_setCtl]
  split
  · exact turns_enterQueued k hq hc
  · exact turns_enterOff k hq hc

/-- A channel leaves the queue. -/
theorem turns_unqueue {s : State} {c : Chan} {k : Controller} (hq : (s.ctl c).state = .queued)
    (hk : k.state ≠ .queued) : Turns s ((s.unqueue c).setCtl c k) c k := by
  refine ⟨fun j => State.ctl_setCtl_of (s.unqueue c) c j k, ?_, ?_, fun r => ?_, rfl, rfl, rfl⟩
  · simp [State.requeued, hq, hk, State.unqueue]
  · simp [State.recounted, hq, State.unqueue]
  · rw [State.recharged, hq, if_neg (by simp [ChannelState.charged])]
    rfl

/-- A channel's switches open and its charge goes. -/
theorem turns_uncharge {s : State} {c : Chan} {k : Controller} (hc : (s.ctl c).state.charged = true)
    (hk : k.state.charged = false) (hkq : k.state ≠ .queued) :
    Turns s (((s.uncharge c).quiet c).setCtl c k) c k := by
  refine ⟨fun j => State.ctl_setCtl_of ((s.uncharge c).quiet c) c j k, ?_, ?_, fun r => ?_, rfl, rfl, rfl⟩
  · simp [State.requeued, ChannelState.ne_queued_of_charged hc, hkq, State.uncharge, State.quiet,
      State.setSen, State.setCtl]
  · simp [State.recounted, hkq, State.uncharge, State.quiet, State.setSen, State.setCtl]
  · rw [State.recharged, if_pos ⟨hc, hk⟩]
    cases r <;> rfl

/-- A turn through a state without entry and charge. -/
theorem Turns.trans {s t u : State} {c : Chan} {k k' : Controller} (h : Turns s t c k)
    (h' : Turns t u c k') (hs : (s.ctl c).state ≠ .queued) (hk : k.state ≠ .queued)
    (hc : k.state.charged = false) (hc' : k'.state.charged = false) : Turns s u c k' := by
  refine ⟨fun j => ?_, ?_, ?_, fun r => ?_, h'.demand.trans h.demand, h'.config.trans h.config,
    h'.grants.trans h.grants⟩
  · rw [h'.ctl, h.ctl]; split <;> rfl
  · have htq : t.queue = s.queue := by rw [h.queue]; simp [State.requeued, hs, hk]
    have hta : t.admissionCounter = s.admissionCounter := by rw [h.admission]; simp [State.recounted, hk]
    rw [h'.queue]
    simp [State.requeued, h.ctl_self, hk, hs, htq, hta, h.dem]
  · have hta : t.admissionCounter = s.admissionCounter := by rw [h.admission]; simp [State.recounted, hk]
    rw [h'.admission]
    simp [State.recounted, h.ctl_self, hk, hs, hta]
  · rw [h'.account, State.recharged, h.ctl_self, if_neg (by simp [hc]), h.account]
    simp [State.recharged, hc, hc']

theorem rested_charged (k : Controller) (f : ChannelConfig) : (k.rested f).state.charged = false := by
  unfold Controller.rested
  dsimp only
  split <;> rfl

theorem waitEnded_charged (k : Controller) (f : ChannelConfig) :
    (k.waitEnded f).state.charged = false := by
  unfold Controller.waitEnded
  split
  · rfl
  · exact rested_charged k f

theorem stopped_charged (k : Controller) (f : ChannelConfig) : (k.stopped f).state.charged = false := by
  unfold Controller.stopped
  split
  · exact waitEnded_charged _ f
  · rfl

/-- A stop of a charged channel, its cascade apart (R65, R67). -/
theorem turns_stopOne {s : State} (cause : StopCause) {c : Chan} (hc : (s.ctl c).state.charged = true) :
    Turns s (s.stopOne cause c) c ((s.ctl c).stopped (s.cfg c)) := by
  unfold State.stopOne Controller.stopped
  dsimp only
  refine .then_same ?_ (sameCore_reportChannel _ c _)
  have hhalt : Turns s (((s.uncharge c).quiet c).setCtl c ((s.ctl c).halted (s.cfg c))) c
      ((s.ctl c).halted (s.cfg c)) := turns_uncharge hc rfl (by simp [Controller.halted])
  by_cases hd : (s.cfg c).dischargeTime = 0
  · rw [if_pos hd, if_pos hd]
    have hend := turns_endWait (s := ((s.uncharge c).quiet c).setCtl c ((s.ctl c).halted (s.cfg c)))
      ((s.ctl c).halted (s.cfg c)) (c := c) (by simp [Controller.halted])
      (by simp [Controller.halted, ChannelState.charged])
    rw [setCtl_setCtl] at hend
    exact hhalt.trans hend (ChannelState.ne_queued_of_charged hc) (by simp [Controller.halted]) rfl
      (waitEnded_charged _ _)
  · rw [if_neg hd, if_neg hd]
    exact hhalt

end Sys2Proof.Machine
end

section
/-! PROOFS. The pieces that faults, grants and moves are made of, and what each does to one controller. -/

namespace Sys2Proof.Machine

/-- A turn after a rewriting of the same controller that keeps its state. -/
theorem Turns.after_setCtl {s u : State} {c : Chan} {k k' : Controller}
    (hk : k.state = (s.ctl c).state) (h : Turns (s.setCtl c k) u c k') : Turns s u c k' := by
  have hctl : (s.setCtl c k).ctl c = k := State.ctl_setCtl s c k
  refine ⟨fun j => ?_, ?_, ?_, fun r => ?_, h.demand, h.config, h.grants⟩
  · rw [h.ctl, State.ctl_setCtl_of]
    split <;> rfl
  · rw [h.queue]
    simp only [State.requeued, hctl, hk]
    rfl
  · rw [h.admission]
    simp only [State.recounted, hctl, hk]
    rfl
  · rw [h.account]
    simp only [State.recharged, hctl, hk]
    rfl

/-- The controller with its demand item cleared. -/
def Controller.itemless (k : Controller) : Controller := { k with demand := false }

/-- The stop of a channel that has lost its demand. -/
theorem turns_released {s : State} {c : Chan} (hc : (s.ctl c).state.charged = true) :
    Turns s ((s.setCtl c (s.ctl c).itemless).stopOne .released c) c
      ((s.ctl c).itemless.stopped (s.cfg c)) := by
  refine .after_setCtl (k := (s.ctl c).itemless) rfl ?_
  have h := turns_stopOne (s := s.setCtl c (s.ctl c).itemless) .released (c := c)
    (by rw [State.ctl_setCtl]; exact hc)
  rwa [State.ctl_setCtl, State.setCtl_cfg] at h

theorem turns_demandArrival (s : State) (c : Chan) :
    Turns s (s.demandArrival c) c ((s.ctl c).arrived (s.cfg c)) := by
  have hsame (hx : ¬ ((s.ctl c).state = .off ∧ (s.cfg c).admin = .enabled)) :
      Turns s (s.setCtl c { s.ctl c with demand := true }) c ((s.ctl c).arrived (s.cfg c)) := by
    have e : (s.ctl c).arrived (s.cfg c) = { s.ctl c with demand := true } := by
      simp [Controller.arrived, hx]
    rw [e]
    exact turns_setCtl Iff.rfl id
  unfold State.demandArrival
  split
  next hoff =>
    split
    next hen =>
      have e : (s.ctl c).arrived (s.cfg c) = { s.ctl c with demand := true, state := .queued } := by
        simp [Controller.arrived, hoff, hen]
      rw [e]
      exact turns_enterQueued { s.ctl c with demand := true } (by simp [hoff])
        (by simp [hoff, ChannelState.charged])
    next hen => exact hsame fun h => hen h.2
  all_goals
    rename_i hst
    exact hsame fun h => by simp [hst] at h

/-- The early end of a retry wait. -/
theorem turns_abandonRetry {s : State} {c : Chan} {k : Controller} (hs : (s.ctl c).state = .retryWait) :
    Turns s ((s.setCtl c k).abandonRetry c) c (k.abandoned (s.cfg c)) := by
  have hq : (s.ctl c).state ≠ .queued := by simp [hs]
  have hc : (s.ctl c).state.charged = false := by simp [hs, ChannelState.charged]
  unfold State.abandonRetry Controller.abandoned
  dsimp only
  rw [State.ctl_setCtl, setCtl_setCtl]
  split
  · exact turns_setCtl (by simp [hs]) (by simp [hc])
  · exact turns_enterOff { k with state := .stopping, backoff := none } hq hc

theorem rested_of_unwanted {k : Controller} {f : ChannelConfig} (h : k.wantedBy f = false) :
    k.rested f = { k with state := .off, retryCount := 0, chargedRail := none } := by
  simp [Controller.rested, h]

/-- A queued channel leaves the queue for OFF. -/
theorem turns_unqueue_enterOff {s : State} {c : Chan} {k : Controller} (hs : (s.ctl c).state = .queued)
    (hk : k.wantedBy (s.cfg c) = false) :
    Turns s (((s.setCtl c k).unqueue c).enterOff c) c (k.rested (s.cfg c)) := by
  have hw : ((((s.setCtl c k).unqueue c).setCtl c
      { k with state := .off, retryCount := 0, chargedRail := none }).wanted c) = false := by
    rw [wanted_setCtl]
    exact hk
  have he : ((s.setCtl c k).unqueue c).enterOff c = (s.unqueue c).setCtl c (k.rested (s.cfg c)) := by
    unfold State.enterOff
    dsimp only
    have hctl : ((s.setCtl c k).unqueue c).ctl c = k := State.ctl_setCtl s c k
    rw [hctl, hw, if_neg (by simp), rested_of_unwanted hk]
    exact setCtl_setCtl (s.unqueue c) c k _
  rw [he]
  exact turns_unqueue hs (by simp [rested_of_unwanted hk])

theorem lost_of_queued {k : Controller} (f : ChannelConfig) (h : k.state = .queued) :
    k.lost f = k.itemless.rested f := by
  simp [Controller.lost, h, Controller.itemless]

theorem lost_of_retryWait {k : Controller} (f : ChannelConfig) (h : k.state = .retryWait) :
    k.lost f = k.itemless.abandoned f := by
  simp [Controller.lost, h, Controller.itemless]

theorem lost_of_charged {k : Controller} (f : ChannelConfig) (h : k.state.charged = true) :
    k.lost f = k.itemless.stopped f := by
  unfold Controller.lost
  split <;> simp_all [ChannelState.charged, Controller.itemless]

theorem lost_of_idle {k : Controller} (f : ChannelConfig) (hq : k.state ≠ .queued)
    (hr : k.state ≠ .retryWait) (hc : k.state.charged = false) : k.lost f = k.itemless := by
  unfold Controller.lost
  split <;> simp_all [ChannelState.charged, Controller.itemless]

/-- A demand loss of a channel that is not charged. -/
theorem turns_demandLoss {s : State} {c : Chan} (hc : (s.ctl c).state.charged = false) :
    Turns s (s.demandLoss c) c ((s.ctl c).lost (s.cfg c)) := by
  have hidle (hq : (s.ctl c).state ≠ .queued) (hr : (s.ctl c).state ≠ .retryWait) :
      Turns s (s.setCtl c (s.ctl c).itemless) c ((s.ctl c).lost (s.cfg c)) := by
    rw [lost_of_idle _ hq hr hc]
    exact turns_setCtl Iff.rfl id
  unfold State.demandLoss
  dsimp only
  split
  next hst =>
    rw [lost_of_queued _ hst]
    exact turns_unqueue_enterOff hst (by simp [Controller.wantedBy])
  next hst => simp [hst, ChannelState.charged] at hc
  next hst => simp [hst, ChannelState.charged] at hc
  next hst => simp [hst, ChannelState.charged] at hc
  next hst =>
    rw [lost_of_retryWait _ hst]
    exact turns_abandonRetry hst
  all_goals
    rename_i hst
    exact hidle (by simp [hst]) (by simp [hst])

/-! ### The fault, its cascade and its recomputation apart (R100) -/

/-- A fault of channel `c` up to its FAULTED record. -/
def State.faultOne (s : State) (cause : FaultCause) (c : Chan) : State :=
  (((s.uncharge c).quiet c).setCtl c ((s.ctl c).faulted (s.cfg c) cause)).reportChannel c
    (.faulted cause ((s.ctl c).retryCount + 1) ((s.cfg c).retryLimit < (s.ctl c).retryCount + 1))

/-- The fault with its cascade. -/
def State.faultCascade (s : State) (cause : FaultCause) (c : Chan) : State :=
  if (s.ctl c).state = .isOn then (s.faultOne cause c).cascade c else s.faultOne cause c

theorem fault_eq (s : State) (cause : FaultCause) (c : Chan) : s.fault cause c =
    if (s.cfg c).retryLimit < (s.ctl c).retryCount + 1 then (s.faultCascade cause c).recompute
    else s.faultCascade cause c := rfl

theorem turns_faultOne {s : State} (cause : FaultCause) {c : Chan} (hc : (s.ctl c).state.charged = true) :
    Turns s (s.faultOne cause c) c ((s.ctl c).faulted (s.cfg c) cause) := by
  refine .then_same (turns_uncharge hc ?_ ?_) (sameCore_reportChannel _ c _)
  · unfold Controller.faulted
    dsimp only
    split <;> rfl
  · unfold Controller.faulted
    dsimp only
    split <;> simp

/-! ### The entry to SOFTSTART and the grant, entry check apart (R38, R57) -/

/-- SOFTSTART on the charged rail, timers started. -/
def State.startSoft (s : State) (c : Chan) : State := s.setCtl c ((s.ctl c).started (s.cfg c))

theorem enterSoftstart_eq (s : State) (c : Chan) : s.enterSoftstart c =
    match s.entryFault c with
    | some cause => (s.startSoft c).fault cause c
    | none => s.startSoft c := rfl

/-- The charge placed and SOFTSTART entered. -/
def State.grantEntry (s : State) (c : Chan) (r : Rail) : State :=
  (({ s.unqueue c with grantCounter := s.grantCounter + 1 } : State).charge r
    ⟨c, (s.cfg c).classAU, s.grantCounter⟩).setCtl c
      (Controller.started { s.ctl c with chargedRail := some r, grantNumber := s.grantCounter } (s.cfg c))

theorem grant_eq (s : State) (c : Chan) (r : Rail) : s.grant c r =
    match s.entryFault c with
    | some cause => (s.grantEntry c r).fault cause c
    | none => s.grantEntry c r := by
  have hentry (k : Controller) :
      ((({ s.unqueue c with grantCounter := s.grantCounter + 1 } : State).charge r
        ⟨c, (s.cfg c).classAU, s.grantCounter⟩).setCtl c k).entryFault c = s.entryFault c := rfl
  have hstart : ((({ s.unqueue c with grantCounter := s.grantCounter + 1 } : State).charge r
        ⟨c, (s.cfg c).classAU, s.grantCounter⟩).setCtl c
          { s.ctl c with chargedRail := some r, grantNumber := s.grantCounter }).startSoft c =
      s.grantEntry c r := by
    unfold State.startSoft
    rw [State.ctl_setCtl, setCtl_setCtl]
    rfl
  change (State.enterSoftstart _ c) = _
  rw [enterSoftstart_eq]
  change (match s.entryFault c with
    | some cause => (State.startSoft _ c).fault cause c
    | none => State.startSoft _ c) = _
  cases s.entryFault c with
  | none => exact hstart
  | some cause => exact congrArg (fun t => State.fault t cause c) hstart

/-- What a grant up to the entry check leaves. -/
structure Granted (s t : State) (c : Chan) (r : Rail) : Prop where
  ctl : ∀ j, t.ctl j = if j = c then
    Controller.started { s.ctl c with chargedRail := some r, grantNumber := s.grantCounter } (s.cfg c)
    else s.ctl j
  queue : t.queue = s.queue.filter fun e => e.chan ≠ c
  admission : t.admissionCounter = s.admissionCounter
  account : ∀ q, t.account q = if q = r then { s.account r with
      charges := insertBy Charge.precedes ⟨c, (s.cfg c).classAU, s.grantCounter⟩ (s.account r).charges }
    else s.account q
  demand : t.demand = s.demand
  config : t.config = s.config
  grants : t.grantCounter = s.grantCounter + 1

theorem granted_grantEntry (s : State) (c : Chan) (r : Rail) : Granted s (s.grantEntry c r) c r := by
  refine ⟨fun j => ?_, rfl, rfl, fun q => ?_, rfl, rfl, rfl⟩
  · unfold State.grantEntry
    rw [State.ctl_setCtl_of]
    rfl
  · unfold State.grantEntry
    rw [State.setCtl_account, State.charge, State.account_setAccount_of]
    rfl

/-! ### The move to the other rail, cascade apart (R121, R124) -/

/-- The controller of a channel moved to rail `new` (R124). -/
def Controller.switched (k : Controller) (f : ChannelConfig) (new : Rail) : Controller :=
  { k with
    state := .switchover, sub := .noSub, chargedRail := some new
    softStart := none, blanking := none, stable := none
    deadTime := some f.deadTime }

/-- The charge `x` moved to rail `new` and its channel in SWITCHOVER, SWITCHED given. -/
def State.switchOne (s : State) (x : Charge) (lost new : Rail) : State :=
  (((s.moveCharge x new).quiet x.chan).setCtl x.chan
    ((s.ctl x.chan).switched (s.cfg x.chan) new)).reportChannel x.chan (.switched lost new)

theorem enterSwitchover_moveCharge (s : State) (x : Charge) (lost new : Rail) :
    (s.moveCharge x new).enterSwitchover x.chan lost new =
      if (s.ctl x.chan).state = .isOn then (s.switchOne x lost new).cascade x.chan
      else s.switchOne x lost new := rfl

/-- What a move up to the cascade leaves. -/
structure Moved (s t : State) (x : Charge) (new : Rail) : Prop where
  ctl : ∀ j, t.ctl j = if j = x.chan then (s.ctl x.chan).switched (s.cfg x.chan) new else s.ctl j
  queue : t.queue = s.queue
  admission : t.admissionCounter = s.admissionCounter
  account : ∀ q, t.account q = if q = new then { (s.account new).without x.chan with
      charges := insertBy Charge.precedes x ((s.account new).without x.chan).charges }
    else (s.account q).without x.chan
  demand : t.demand = s.demand
  config : t.config = s.config
  grants : t.grantCounter = s.grantCounter

theorem account_uncharge (s : State) (c : Chan) (r : Rail) :
    (s.uncharge c).account r = (s.account r).without c := by
  cases r <;> rfl

theorem moved_switchOne (s : State) (x : Charge) (lost new : Rail) :
    Moved s (s.switchOne x lost new) x new := by
  have e := sameCore_reportChannel (((s.moveCharge x new).quiet x.chan).setCtl x.chan
    ((s.ctl x.chan).switched (s.cfg x.chan) new)) x.chan (.switched lost new)
  refine ⟨fun j => ?_, e.queue, e.admission, fun q => ?_, e.demand, e.config, e.grants⟩
  · rw [State.switchOne, e.ctl, State.ctl_setCtl_of]
    rfl
  · rw [State.switchOne, e.account, State.setCtl_account, State.quiet, State.setSen_account,
      State.moveCharge, State.charge, State.account_setAccount_of, account_uncharge, account_uncharge]

end Sys2Proof.Machine
end

section
/-! PROOFS. The small steps that a recomputation, a stop with its cascade, a fault and the examinations are made of. -/

namespace Sys2Proof.Machine

/-! ### Controllers after the transitions, in any state -/

theorem enterQueued_ctl (s : State) (c j : Chan) :
    (s.enterQueued c).ctl j = if j = c then { s.ctl c with state := .queued } else s.ctl j :=
  State.ctl_setCtl_of s c j _

theorem enterOff_ctl (s : State) (c j : Chan) :
    (s.enterOff c).ctl j = if j = c then (s.ctl c).rested (s.cfg c) else s.ctl j := by
  unfold State.enterOff
  dsimp only
  rw [wanted_setCtl]
  unfold Controller.rested
  by_cases hw : (s.ctl c).wantedBy (s.cfg c) = true
  · rw [if_pos hw, if_pos (show Controller.wantedBy { s.ctl c with
      state := .off, retryCount := 0, chargedRail := none } (s.cfg c) = true from hw),
      enterQueued_ctl, State.ctl_setCtl, State.ctl_setCtl_of]
    split <;> rfl
  · rw [if_neg hw, if_neg (show ¬ Controller.wantedBy { s.ctl c with
      state := .off, retryCount := 0, chargedRail := none } (s.cfg c) = true from hw),
      State.ctl_setCtl_of]

theorem endWait_ctl (s : State) (c j : Chan) :
    (s.endWait c).ctl j = if j = c then (s.ctl c).waitEnded (s.cfg c) else s.ctl j := by
  unfold State.endWait Controller.waitEnded
  change (if (s.ctl c).wantedBy (s.cfg c) = true then s.enterQueued c else s.enterOff c).ctl j = _
  by_cases hw : (s.ctl c).wantedBy (s.cfg c) = true
  · rw [if_pos hw, if_pos hw, enterQueued_ctl]
  · rw [if_neg hw, if_neg hw, enterOff_ctl]

theorem stopOne_ctl (s : State) (cause : StopCause) (c j : Chan) :
    (s.stopOne cause c).ctl j = if j = c then (s.ctl c).stopped (s.cfg c) else s.ctl j := by
  unfold State.stopOne Controller.stopped
  dsimp only
  rw [(sameCore_reportChannel _ _ _).ctl]
  by_cases hd : (s.cfg c).dischargeTime = 0
  · rw [if_pos hd, if_pos hd, endWait_ctl, State.ctl_setCtl, State.ctl_setCtl_of]
    split <;> rfl
  · rw [if_neg hd, if_neg hd, State.ctl_setCtl_of]
    rfl

/-- A stop charges nobody. -/
theorem stopOne_uncharged {s : State} {k : Chan} (h : (s.ctl k).state.charged = false)
    (cause : StopCause) (c : Chan) : ((s.stopOne cause c).ctl k).state.charged = false := by
  rw [stopOne_ctl]
  split
  · exact stopped_charged _ _
  · exact h

theorem stopOne_cfg (s : State) (cause : StopCause) (c j : Chan) :
    (s.stopOne cause c).cfg j = s.cfg j := (moves_stopOne s cause c).cfg j

theorem stopOne_stopped (s : State) (cause : StopCause) (c : Chan) :
    ((s.stopOne cause c).ctl c).state.charged = false := by
  rw [stopOne_ctl, if_pos rfl]
  exact stopped_charged _ _

theorem children_eq_of_config {s t : State} (h : t.config = s.config) (c : Chan) :
    t.children c = s.children c := by
  exact List.filter_congr fun k _ => by rw [State.cfg, State.cfg, h]

theorem stopTree_zero (cause : StopCause) (c : Chan) (s : State) :
    stopTree 0 cause c s = s.stopOne cause c := rfl

theorem stopTree_succ (n : Nat) (cause : StopCause) (c : Chan) (s : State) :
    stopTree (n + 1) cause c s = if (s.ctl c).state = .isOn then
      (s.children c).foldl (fun u k => if (u.ctl k).state.charged then stopTree n .parentLost k u else u)
        (s.stopOne cause c)
    else s.stopOne cause c := rfl

/-- A list of children none of which is charged brings no stop. -/
theorem foldl_uncharged {f : Chan → State → State} {l : List Chan} {s : State}
    (h : ∀ k ∈ l, (s.ctl k).state.charged = false) :
    l.foldl (fun u k => if (u.ctl k).state.charged then f k u else u) s = s := by
  induction l with
  | nil => rfl
  | cons k l ih =>
    rw [List.foldl_cons, if_neg (by simp [h k (by simp)])]
    exact ih fun j hj => h j (List.mem_cons_of_mem k hj)

/-- Without a charged child a stop has no cascade. -/
theorem stop_eq_stopOne {s : State} {c : Chan} (cause : StopCause)
    (h : ∀ k, (s.cfg k).parent = some c → (s.ctl k).state.charged = false) :
    s.stop cause c = s.stopOne cause c := by
  unfold State.stop treeDepth
  rw [stopTree_succ]
  split
  · exact foldl_uncharged fun k hk => stopOne_uncharged (h k ((State.mem_children s c k).1 hk)) cause c
  · rfl

/-! ### Small steps that charge nobody -/

/-- A demand value table brought to the formulas. -/
def State.valued (s : State) : State := { s with demand := tabulate s.demandNow }

/-- One small step of a recomputation, of a stop with its cascade or of a preemption: it charges nobody. -/
inductive Bit (s : State) : State → Prop where
  | draw (n : Nat) : Bit s { s with draws := n }
  | arrived (c : Chan) : (s.dem c).effective = true → Bit s (s.demandArrival c)
  | lost (c : Chan) : (s.ctl c).state.charged = false → (s.dem c).effective = false →
      Bit s (s.demandLoss c)
  | released (c : Chan) : (s.ctl c).state.charged = true → (s.dem c).effective = false →
      Bit s ((s.setCtl c (s.ctl c).itemless).stopOne .released c)
  | reprioritized (c : Chan) : Bit s (s.reprioritize c)
  | stopped (cause : StopCause) (c : Chan) : (s.ctl c).state.charged = true → Bit s (s.stopOne cause c)
  | shed (r : Rail) (v : List Charge) : v.Subperm (s.account r).charges →
      (∀ x ∈ v, (s.ctl x.chan).state.closed = true) →
      Bit s (v.foldl (fun t x => t.stopOne .shed x.chan) s)

/-- Small steps, one after another. -/
def Bits : State → State → Prop := Relation.ReflTransGen Bit

theorem Bits.refl (s : State) : Bits s s := Relation.ReflTransGen.refl

theorem Bits.trans {s t u : State} (h : Bits s t) (k : Bits t u) : Bits s u :=
  Relation.ReflTransGen.trans h k

theorem Bit.bits {s t : State} (h : Bit s t) : Bits s t := Relation.ReflTransGen.single h

/-- What every small step keeps, small steps keep. -/
theorem Bits.keeps {P : State → Prop} (hP : ∀ {s t}, Bit s t → P s → P t) {s t : State} (h : Bits s t)
    (hs : P s) : P t := by
  induction h with
  | refl => exact hs
  | tail _ hb ih => exact hP hb ih

theorem bits_foldl {α : Type} {f : State → α → State} (hf : ∀ t x, Bits t (f t x)) :
    ∀ (l : List α) (s : State), Bits s (l.foldl f s)
  | [], s => .refl s
  | x :: xs, s => (hf s x).trans (bits_foldl hf xs (f s x))

theorem bits_charged_only {f : State → State} {c : Chan} {s : State}
    (h : (s.ctl c).state.charged = true → Bits s (f s)) :
    Bits s (if (s.ctl c).state.charged then f s else s) := by
  split
  next hc => exact h hc
  next => exact .refl s

/-- Below a first step, a stop's cascade is small steps. -/
theorem bits_stopTree : ∀ (n : Nat) (cause : StopCause) (c : Chan) (s : State),
    Bits (s.stopOne cause c) (stopTree n cause c s)
  | 0, cause, c, s => .refl _
  | n + 1, cause, c, s => by
    rw [stopTree_succ]
    split
    · exact bits_foldl (fun _ k => bits_charged_only (f := stopTree n .parentLost k) fun hk =>
        (Bit.stopped .parentLost k hk).bits.trans (bits_stopTree n .parentLost k _)) _ _
    · exact .refl _

theorem bits_stop {s : State} (cause : StopCause) {c : Chan} (hc : (s.ctl c).state.charged = true) :
    Bits s (s.stop cause c) := (Bit.stopped cause c hc).bits.trans (bits_stopTree _ _ _ _)

theorem bits_cascade (s : State) (c : Chan) : Bits s (s.cascade c) :=
  bits_foldl (fun _ k => bits_charged_only (f := fun t => t.stop .parentLost k) fun hk => bits_stop _ hk) _ _

/-- A demand loss of a charged channel is its stop. -/
theorem demandLoss_of_charged {s : State} {c : Chan} (hc : (s.ctl c).state.charged = true) :
    s.demandLoss c = (s.setCtl c (s.ctl c).itemless).stop .released c := by
  unfold State.demandLoss
  dsimp only
  split <;> simp_all [ChannelState.charged, Controller.itemless]

theorem bits_demandLoss {s : State} {c : Chan} (he : (s.dem c).effective = false) :
    Bits s (s.demandLoss c) := by
  by_cases hc : (s.ctl c).state.charged = true
  · rw [demandLoss_of_charged hc]
    exact (Bit.released c hc he).bits.trans (bits_stopTree _ _ _ _)
  · exact (Bit.lost c (by simpa using hc) he).bits

theorem bits_handOn (s : State) (old : Demand) (c : Chan) : Bits s (s.handOn old c) := by
  unfold State.handOn
  split
  next he => exact (Bit.arrived c he).bits
  next he => exact bits_demandLoss he
  · split
    · exact .refl s
    · exact (Bit.reprioritized c).bits
  · exact .refl s

/-- The channels whose values a recomputation changes. -/
def State.todo (s : State) : List Chan := allChans.filter fun c => (s.dem c).changed (s.demandNow c)

theorem recompute_eq (s : State) : s.recompute =
    inFreeOrder s.lowest (fun c u => u.handOn (s.dem c) c) s.todo.length s.todo s.valued := by
  simp only [State.recompute, State.todo, State.valued, State.dem, look_tabulate]

theorem bits_recompute (s : State) : Bits s.valued s.recompute := by
  rw [recompute_eq]
  exact inFreeOrder_keeps (P := Bits s.valued) (fun c t h => h.trans (bits_handOn t _ c))
    (fun t h => h.trans (Bit.draw _).bits) _ _ _ (.refl _)

theorem bits_faultCascade (s : State) (cause : FaultCause) (c : Chan) :
    Bits (s.faultOne cause c) (s.faultCascade cause c) := by
  unfold State.faultCascade
  split
  · exact bits_cascade _ c
  · exact .refl _

/-! ### Victims -/

theorem walk_sublist {need : Nat} : ∀ {l : List Charge} {atHand : Nat} {v : List Charge},
    walk need atHand l = some v → v.Sublist l
  | [], atHand, v, h => by
    unfold walk at h
    split at h
    · cases h; exact .refl _
    · cases h
  | x :: xs, atHand, v, h => by
    unfold walk at h
    split at h
    · cases h; exact List.nil_sublist _
    · obtain ⟨w, hw, rfl⟩ := Option.map_eq_some_iff.1 h
      exact (walk_sublist hw).cons_cons x

/-- Victims are charges of the rail that may be shed. -/
theorem victims_spec {s : State} {r : Rail} {p need : Nat} {v : List Charge}
    (h : s.victims r p need = some v) :
    v.Subperm (s.account r).charges ∧ ∀ x ∈ v, s.sheddable p x = true := by
  have hsub : v.Sublist (s.shedCandidates r p) := walk_sublist h
  have hperm : (s.shedCandidates r p).Perm ((s.account r).charges.filter (s.sheddable p)) := sortBy_perm _ _
  refine ⟨hsub.subperm.trans (hperm.subperm.trans List.filter_sublist.subperm), fun x hx => ?_⟩
  exact (List.mem_filter.1 (hperm.mem_iff.1 (hsub.subset hx))).2

theorem sheddable_iff (s : State) (p : Nat) (x : Charge) : s.sheddable p x = true ↔
    (s.ctl x.chan).state.closed = true ∧
      (∀ k, (s.cfg k).parent = some x.chan → (s.ctl k).state.active = false) ∧
      (s.dem x.chan).priority < p := by
  simp [State.sheddable, and_assoc]

theorem ChannelState.charged_of_inactive {x : ChannelState} (h : x.active = false) : x.charged = false := by
  cases x <;> simp_all [ChannelState.active, ChannelState.charged]

/-- Victims have no charged child, so each stop among them is one small step. -/
theorem shed_eq_foldl {s : State} {v : List Charge}
    (h : ∀ x ∈ v, ∀ k, (s.cfg k).parent = some x.chan → (s.ctl k).state.charged = false) :
    s.shed v = v.foldl (fun t x => t.stopOne .shed x.chan) s := by
  unfold State.shed
  induction v generalizing s with
  | nil => rfl
  | cons x v ih =>
    rw [List.foldl_cons, List.foldl_cons, stop_eq_stopOne _ (h x (by simp))]
    refine ih fun y hy k hk => ?_
    rw [stopOne_cfg] at hk
    exact stopOne_uncharged (h y (List.mem_cons_of_mem x hy) k hk) _ _

theorem shed_victims {s : State} {r : Rail} {p need : Nat} {v : List Charge}
    (h : s.victims r p need = some v) : s.shed v = v.foldl (fun t x => t.stopOne .shed x.chan) s :=
  shed_eq_foldl fun x hx k hk => ChannelState.charged_of_inactive
    (((sheddable_iff s p x).1 ((victims_spec h).2 x hx)).2.1 k hk)

theorem bit_shed {s : State} {r : Rail} {p need : Nat} {v : List Charge}
    (h : s.victims r p need = some v) : Bit s (s.shed v) := by
  rw [shed_victims h]
  exact .shed r v (victims_spec h).1 fun x hx => ((sheddable_iff s p x).1 ((victims_spec h).2 x hx)).1

/-! ### Faults, grants and examinations -/

/-- One small step of an event's examinations. -/
inductive Act (s : State) : State → Prop where
  | bit {t : State} : Bit s t → Act s t
  | valued : Act s s.valued
  | faulted (cause : FaultCause) (c : Chan) : (s.ctl c).state.closed = true → Act s (s.faultOne cause c)
  | granted (e : QueueEntry) (r : Rail) : e ∈ s.queue → s.isUp r = true → Act s (s.grantEntry e.chan r)

/-- Small steps, one after another. -/
def Acts : State → State → Prop := Relation.ReflTransGen Act

theorem Acts.refl (s : State) : Acts s s := Relation.ReflTransGen.refl

theorem Acts.trans {s t u : State} (h : Acts s t) (k : Acts t u) : Acts s u :=
  Relation.ReflTransGen.trans h k

theorem Act.acts {s t : State} (h : Act s t) : Acts s t := Relation.ReflTransGen.single h

theorem Bits.acts {s t : State} (h : Bits s t) : Acts s t :=
  h.keeps (P := Acts s) (fun hb ha => ha.trans (Act.bit hb).acts) (.refl s)

theorem Acts.keeps {P : State → Prop} (hP : ∀ {s t}, Act s t → P s → P t) {s t : State} (h : Acts s t)
    (hs : P s) : P t := by
  induction h with
  | refl => exact hs
  | tail _ hb ih => exact hP hb ih

theorem acts_recompute (s : State) : Acts s s.recompute := Act.valued.acts.trans (bits_recompute s).acts

theorem acts_fault {s : State} (cause : FaultCause) {c : Chan} (hc : (s.ctl c).state.closed = true) :
    Acts s (s.fault cause c) := by
  have h : Acts s (s.faultCascade cause c) :=
    (Act.faulted cause c hc).acts.trans (bits_faultCascade s cause c).acts
  rw [fault_eq]
  split
  · exact h.trans (acts_recompute _)
  · exact h

/-- An admission is the candidate's, after the victims it needs. -/
theorem admission_eq_some {s : State} {r : Rail} {c : Chan} {v : List Charge}
    (h : s.admission r = some (c, v)) : ∃ e, s.candidate r = some e ∧ e.chan = c ∧
      s.victims r e.priority (s.cfg e.chan).classAU = some v := by
  unfold State.admission at h
  split at h
  next e he =>
    obtain ⟨w, hw, hwc⟩ := Option.map_eq_some_iff.1 h
    cases hwc
    exact ⟨e, he, rfl, hw⟩
  next => cases h

theorem candidate_spec {s : State} {r : Rail} {e : QueueEntry} (h : s.candidate r = some e) :
    e ∈ s.queue ∧ s.parentOn e.chan = true ∧ s.target e.chan = some r := by
  have hp := List.find?_some h
  simp only [Bool.and_eq_true, decide_eq_true_eq] at hp
  exact ⟨List.mem_of_find?_eq_some h, hp.1, hp.2⟩

theorem target_isUp {s : State} {c : Chan} {r : Rail} (h : s.target c = some r) : s.isUp r = true :=
  List.find?_some h

end Sys2Proof.Machine
end

section
/-! PROOFS. The examinations as small steps, and the two inductions over them: by small steps, and by whole grants and faults. -/

namespace Sys2Proof.Machine

/-! ### What a shed leaves to the grant after it -/

theorem mem_queue_enterQueued {s : State} {e : QueueEntry} (h : e ∈ s.queue) (c : Chan) :
    e ∈ (s.enterQueued c).queue :=
  (mem_insertBy _ _ _ _).2 (.inr h)

theorem mem_queue_enterOff {s : State} {e : QueueEntry} (h : e ∈ s.queue) (c : Chan) :
    e ∈ (s.enterOff c).queue := by
  unfold State.enterOff
  dsimp only
  split
  · exact mem_queue_enterQueued (s := s.setCtl c _) h c
  · exact h

theorem mem_queue_endWait {s : State} {e : QueueEntry} (h : e ∈ s.queue) (c : Chan) :
    e ∈ (s.endWait c).queue := by
  unfold State.endWait
  split
  · exact mem_queue_enterQueued h c
  · exact mem_queue_enterOff h c

/-- A stop takes no entry out of the queue. -/
theorem mem_queue_stopOne {s : State} {e : QueueEntry} (h : e ∈ s.queue) (cause : StopCause) (c : Chan) :
    e ∈ (s.stopOne cause c).queue := by
  unfold State.stopOne
  dsimp only
  rw [(sameCore_reportChannel _ _ _).queue]
  split
  · exact mem_queue_endWait (s := ((s.uncharge c).quiet c).setCtl c _) h c
  · exact h

theorem mem_queue_shed {s : State} {r : Rail} {p need : Nat} {v : List Charge}
    (hv : s.victims r p need = some v) {e : QueueEntry} (h : e ∈ s.queue) : e ∈ (s.shed v).queue := by
  rw [shed_victims hv]
  exact List.foldlRecOn v (fun t x => t.stopOne .shed x.chan) (motive := fun t : State => e ∈ t.queue) h
    fun t ht x _ => mem_queue_stopOne ht _ _

theorem isUp_of_rails {s t : State} (h : t.rails = s.rails) (r : Rail) : t.isUp r = s.isUp r := by
  unfold State.isUp State.rail
  rw [h]

theorem grantEntry_closed (s : State) (c : Chan) (r : Rail) :
    ((s.grantEntry c r).ctl c).state.closed = true := by
  rw [(granted_grantEntry s c r).ctl, if_pos rfl]
  rfl

/-! ### Examinations by whole grants and faults -/

section Examinations

variable {P : State → Prop} (hdraw : ∀ {t : State} (n : Nat), P t → P { t with draws := n })
  (hadmit : ∀ {t : State} {r : Rail} {e : QueueEntry} {v : List Charge}, t.candidate r = some e →
    t.victims r e.priority (t.cfg e.chan).classAU = some v → P t → P ((t.shed v).grantEntry e.chan r))
  (hfault : ∀ {t : State} (cause : FaultCause) {c : Chan}, (t.ctl c).state.closed = true → P t →
    P (t.fault cause c))

include hadmit hfault in
theorem admission_keeps {s : State} {r : Rail} {c : Chan} {v : List Charge}
    (h : s.admission r = some (c, v)) (hs : P s) : P ((s.shed v).grant c r) := by
  obtain ⟨e, he, rfl, hv⟩ := admission_eq_some h
  rw [grant_eq]
  split
  · exact hfault _ (grantEntry_closed _ _ _) (hadmit he hv hs)
  · exact hadmit he hv hs

include hadmit hfault in
theorem examineRail_keeps (r : Rail) : ∀ (n : Nat) {s : State}, P s → P (State.examineRail r n s)
  | 0, _, hs => hs
  | n + 1, s, hs => by
    unfold State.examineRail
    split
    next c v h => exact examineRail_keeps r n (admission_keeps hadmit hfault h hs)
    next => exact hs

include hdraw hadmit hfault in
theorem examineBoth_keeps : ∀ (n : Nat) {s : State}, P s → P (State.examineBoth n s)
  | 0, _, hs => hs
  | n + 1, s, hs => by
    unfold State.examineBoth
    split
    next => exact hs
    next => exact examineBoth_keeps n (examineRail_keeps hadmit hfault .a _ hs)
    next => exact examineBoth_keeps n (examineRail_keeps hadmit hfault .b _ hs)
    next =>
      split
      next r t hp =>
        refine examineBoth_keeps n (examineRail_keeps hadmit hfault r _ ?_)
        rcases (pick_spec hp).2 with h | h <;> subst h
        · exact hs
        · exact hdraw _ hs
      next => exact hs

include hdraw hadmit hfault in
/-- What draws, whole grants and whole faults keep, the examinations after an event keep. -/
theorem settle_keeps {before after : State} (h : P after) : P (State.settle before after) := by
  unfold State.settle
  split
  · exact h
  · exact examineBoth_keeps hdraw hadmit hfault _ h

end Examinations

/-! ### Examinations by small steps -/

theorem acts_admitted {s : State} {r : Rail} {e : QueueEntry} {v : List Charge}
    (he : s.candidate r = some e) (hv : s.victims r e.priority (s.cfg e.chan).classAU = some v) :
    Acts s ((s.shed v).grantEntry e.chan r) := by
  obtain ⟨hmem, -, htarget⟩ := candidate_spec he
  refine (Act.bit (bit_shed hv)).acts.trans (Act.granted e r (mem_queue_shed hv hmem) ?_).acts
  rw [isUp_of_rails (moves_shed s v).kept.rails]
  exact target_isUp htarget

theorem acts_settle (before after : State) : Acts after (State.settle before after) :=
  settle_keeps (P := Acts after) (fun n h => h.trans (Act.bit (.draw n)).acts)
    (fun he hv h => h.trans (acts_admitted he hv)) (fun cause _ hc h => h.trans (acts_fault cause hc))
    (.refl after)

/-- An examination that finds no candidate it can grant does nothing. -/
theorem settle_of_no_admission {before after : State} (ha : after.admission .a = none)
    (hb : after.admission .b = none) : State.settle before after = after := by
  unfold State.settle
  split
  · rfl
  · unfold roundBound State.examineBoth
    rw [ha, hb]
    rfl

theorem admission_of_no_candidate {s : State} {r : Rail} (h : s.candidate r = none) :
    s.admission r = none := by
  unfold State.admission
  rw [h]

/-- With no rail UP nothing is granted (R33). -/
theorem settle_of_rails_down {before after : State} (ha : after.isUp .a = false) (hb : after.isUp .b = false) :
    State.settle before after = after := by
  have h (r : Rail) (hr : after.isUp r = false) : after.admission r = none := by
    refine admission_of_no_candidate (candidate_eq_none fun x _ hx => ?_)
    rw [target_isUp hx.2] at hr
    cases hr
  exact settle_of_no_admission (h .a ha) (h .b hb)

theorem settle_of_no_queue {before after : State} (h : after.queue = []) :
    State.settle before after = after := by
  have hno (r : Rail) : after.admission r = none :=
    admission_of_no_candidate (candidate_eq_none fun x hx => by rw [h] at hx; cases hx)
  exact settle_of_no_admission (hno .a) (hno .b)

end Sys2Proof.Machine
end

section
/-! PROOFS. The queue and the accounts agree with the controllers: each small step keeps it. -/

namespace Sys2Proof.Machine

/-! ### Ordered lists -/

/-- Insertion into a strictly ordered list whose members compare with the new one. -/
theorem insertBy_pairwise {α : Type} {p : α → α → Bool}
    (htrans : ∀ {x y z}, p x y = true → p y z = true → p x z = true) {x : α} {l : List α}
    (htotal : ∀ y ∈ l, p x y = true ∨ p y x = true) (h : l.Pairwise fun a b => p a b = true) :
    (insertBy p x l).Pairwise fun a b => p a b = true := by
  induction l with
  | nil => simp [insertBy]
  | cons y ys ih =>
    rw [List.pairwise_cons] at h
    unfold insertBy
    split
    next hxy =>
      refine List.pairwise_cons.2 ⟨fun z hz => ?_, List.pairwise_cons.2 h⟩
      rcases List.mem_cons.1 hz with rfl | hz
      · exact hxy
      · exact htrans hxy (h.1 z hz)
    next hxy =>
      refine List.pairwise_cons.2 ⟨fun z hz => ?_,
        ih (fun z hz => htotal z (List.mem_cons_of_mem y hz)) h.2⟩
      rcases (mem_insertBy p x z ys).1 hz with rfl | hz
      · exact (htotal y (by simp)).resolve_left hxy
      · exact h.1 z hz

theorem QueueEntry.precedes_iff (x y : QueueEntry) : x.precedes y = true ↔
    y.priority < x.priority ∨ (x.priority = y.priority ∧ x.number < y.number) := by
  simp [QueueEntry.precedes]

theorem QueueEntry.precedes_trans {x y z : QueueEntry} (h : x.precedes y = true)
    (k : y.precedes z = true) : x.precedes z = true := by
  rw [QueueEntry.precedes_iff] at *
  omega

theorem QueueEntry.precedes_total {x y : QueueEntry} (h : x.number ≠ y.number) :
    x.precedes y = true ∨ y.precedes x = true := by
  rw [QueueEntry.precedes_iff, QueueEntry.precedes_iff]
  omega

theorem Charge.precedes_iff (x y : Charge) : x.precedes y = true ↔ x.grantNumber < y.grantNumber := by
  simp [Charge.precedes]

theorem Charge.precedes_trans {x y z : Charge} (h : x.precedes y = true) (k : y.precedes z = true) :
    x.precedes z = true := by
  rw [Charge.precedes_iff] at *
  omega

theorem Charge.precedes_total {x y : Charge} (h : x.grantNumber ≠ y.grantNumber) :
    x.precedes y = true ∨ y.precedes x = true := by
  rw [Charge.precedes_iff, Charge.precedes_iff]
  omega

/-! ### The law of the queue -/

/-- The queue by itself: channels and numbers once each, in order, numbers given. -/
structure QueueOrdered (queue : List QueueEntry) (counter : Nat) : Prop where
  chans : (queue.map QueueEntry.chan).Nodup
  numbers : (queue.map QueueEntry.number).Nodup
  sorted : queue.Pairwise fun x y => x.precedes y = true
  given : ∀ e ∈ queue, e.number < counter

theorem queueLaw_iff (s : State) : QueueLaw s ↔
    (∀ c, (s.ctl c).state = .queued ↔ ∃ e ∈ s.queue, e.chan = c) ∧
      QueueOrdered s.queue s.admissionCounter := by
  have hp : (fun x y : QueueEntry => x.precedes y = true) = fun x y =>
      y.priority < x.priority ∨ (x.priority = y.priority ∧ x.number < y.number) := by
    funext x y
    exact propext (QueueEntry.precedes_iff x y)
  constructor
  · rintro ⟨h1, h2, h3, h4, h5⟩
    exact ⟨h1, h2, h3, hp ▸ h4, h5⟩
  · rintro ⟨h1, h2, h3, h4, h5⟩
    exact ⟨h1, h2, h3, hp ▸ h4, h5⟩

theorem QueueOrdered.filter {q : List QueueEntry} {n : Nat} (h : QueueOrdered q n)
    (p : QueueEntry → Bool) : QueueOrdered (q.filter p) n :=
  ⟨h.chans.sublist (List.filter_sublist.map _), h.numbers.sublist (List.filter_sublist.map _),
    h.sorted.sublist List.filter_sublist, fun e he => h.given e (List.mem_filter.1 he).1⟩

/-- Insertion of an entry whose channel and number stand in no other. -/
theorem QueueOrdered.insert {q : List QueueEntry} {n m : Nat} (h : QueueOrdered q n) {e : QueueEntry}
    (hc : ∀ x ∈ q, x.chan ≠ e.chan) (hn : ∀ x ∈ q, x.number ≠ e.number) (hm : n ≤ m) (he : e.number < m) :
    QueueOrdered (insertBy QueueEntry.precedes e q) m := by
  have hperm := insertBy_perm QueueEntry.precedes e q
  refine ⟨?_, ?_, ?_, fun x hx => ?_⟩
  · rw [(hperm.map _).nodup_iff, List.map_cons, List.nodup_cons]
    refine ⟨fun hx => ?_, h.chans⟩
    obtain ⟨x, hx, e1⟩ := List.mem_map.1 hx
    exact hc x hx e1
  · rw [(hperm.map _).nodup_iff, List.map_cons, List.nodup_cons]
    refine ⟨fun hx => ?_, h.numbers⟩
    obtain ⟨x, hx, e1⟩ := List.mem_map.1 hx
    exact hn x hx e1
  · exact insertBy_pairwise (p := QueueEntry.precedes) QueueEntry.precedes_trans
      (fun y hy => QueueEntry.precedes_total (Ne.symm (hn y hy))) h.sorted
  · rcases (mem_insertBy _ _ _ _).1 hx with rfl | hx
    · exact he
    · exact Nat.lt_of_lt_of_le (h.given x hx) hm

/-- A turn keeps the law of the queue. -/
theorem QueueLaw.turns {s t : State} {c : Chan} {k : Controller} (h : QueueLaw s) (ht : Turns s t c k) :
    QueueLaw t := by
  obtain ⟨hq, ho⟩ := (queueLaw_iff s).1 h
  refine (queueLaw_iff t).2 ?_
  rw [ht.queue, ht.admission]
  unfold State.requeued State.recounted
  have hothers {l : List QueueEntry} (hl : ∀ j ≠ c, ((∃ e ∈ l, e.chan = j) ↔ ∃ e ∈ s.queue, e.chan = j))
      (hc : k.state = .queued ↔ ∃ e ∈ l, e.chan = c) (j : Chan) :
      (t.ctl j).state = .queued ↔ ∃ e ∈ l, e.chan = j := by
    by_cases hj : j = c
    · subst hj; rw [ht.ctl_self]; exact hc
    · rw [ht.ctl_ne hj, hq, hl j hj]
  by_cases hk : k.state = .queued
  · by_cases hs : (s.ctl c).state = .queued
    · simp only [hk, hs, if_true, ne_eq, not_true, and_false, if_false]
      exact ⟨hothers (fun _ _ => Iff.rfl) (by simpa [hk, hs] using hq c), ho⟩
    · have hno : ∀ x ∈ s.queue, x.chan ≠ c := fun x hx e => hs ((hq c).2 ⟨x, hx, e⟩)
      simp only [hk, hs, if_true, if_false, ne_eq, not_false_iff, and_self]
      refine ⟨hothers (fun j hj => ?_) ?_, ho.insert hno (fun x hx => Nat.ne_of_lt (ho.given x hx))
        (Nat.le_succ _) (Nat.lt_succ_self _)⟩
      · simp [Ne.symm hj]
      · simp [hk]
  · have hfilter : ∀ j ≠ c, ((∃ e ∈ s.queue.filter fun e => e.chan ≠ c, e.chan = j) ↔
        ∃ e ∈ s.queue, e.chan = j) := by
      intro j hj
      constructor
      · rintro ⟨e, he, rfl⟩
        exact ⟨e, (List.mem_filter.1 he).1, rfl⟩
      · rintro ⟨e, he, rfl⟩
        exact ⟨e, List.mem_filter.2 ⟨he, by simpa using hj⟩, rfl⟩
    by_cases hs : (s.ctl c).state = .queued
    · simp only [hk, hs, if_true, if_false, false_and]
      exact ⟨hothers hfilter (by simp [hk]), ho.filter _⟩
    · simp only [hk, hs, if_false, false_and]
      exact ⟨hothers (fun _ _ => Iff.rfl) (by rw [← hq c]; simp [hk, hs]), ho⟩

theorem reprioritize_of_no_entry {s : State} {c : Chan} (h : ∀ e ∈ s.queue, e.chan ≠ c) :
    s.reprioritize c = s := by
  have hf : (s.queue.find? fun e => e.chan = c) = none := by
    rw [List.find?_eq_none]
    simpa using h
  simp only [State.reprioritize, hf]

/-- A changed priority moves the entry and keeps its number. -/
theorem reprioritize_cases (s : State) (c : Chan) :
    (s.reprioritize c = s ∧ ∀ e ∈ s.queue, e.chan ≠ c) ∨
    ∃ e ∈ s.queue, e.chan = c ∧ s.reprioritize c = { s with
      queue := insertBy QueueEntry.precedes { e with priority := (s.dem c).priority }
        (s.queue.filter fun x => x.chan ≠ c) } := by
  unfold State.reprioritize
  split
  next e he =>
    refine .inr ⟨e, List.mem_of_find?_eq_some he, ?_, rfl⟩
    simpa using List.find?_some he
  next he =>
    refine .inl ⟨rfl, ?_⟩
    rw [List.find?_eq_none] at he
    simpa using he

theorem QueueLaw.reprioritize {s : State} (h : QueueLaw s) (c : Chan) : QueueLaw (s.reprioritize c) := by
  rcases reprioritize_cases s c with ⟨hr, -⟩ | ⟨e, he, hc, hr⟩
  · rwa [hr]
  obtain ⟨hq, ho⟩ := (queueLaw_iff s).1 h
  rw [hr]
  refine (queueLaw_iff _).2 ⟨fun j => ?_, (ho.filter _).insert (fun x hx => ?_) (fun x hx => ?_)
    (Nat.le_refl _) (ho.given e he)⟩
  · change (s.ctl j).state = .queued ↔ _
    rw [hq j]
    constructor
    · rintro ⟨x, hx, rfl⟩
      by_cases hxc : x.chan = c
      · exact ⟨_, (mem_insertBy _ _ _ _).2 (.inl rfl), hc.trans hxc.symm⟩
      · exact ⟨x, (mem_insertBy _ _ _ _).2 (.inr (List.mem_filter.2 ⟨hx, by simpa using hxc⟩)), rfl⟩
    · rintro ⟨x, hx, rfl⟩
      rcases (mem_insertBy _ _ _ _).1 hx with rfl | hx
      · exact ⟨e, he, rfl⟩
      · exact ⟨x, (List.mem_filter.1 hx).1, rfl⟩
  · rw [hc]
    simpa using (List.mem_filter.1 hx).2
  · have hx' := List.mem_filter.1 hx
    intro hn
    have hxe : x = e := List.inj_on_of_nodup_map ho.numbers hx'.1 he hn
    subst hxe
    simp [hc] at hx'

theorem QueueLaw.granted {s t : State} {c : Chan} {r : Rail} (h : QueueLaw s) (ht : Granted s t c r) :
    QueueLaw t := by
  obtain ⟨hq, ho⟩ := (queueLaw_iff s).1 h
  refine (queueLaw_iff t).2 ?_
  rw [ht.queue, ht.admission]
  refine ⟨fun j => ?_, ho.filter _⟩
  rw [ht.ctl]
  by_cases hj : j = c
  · subst hj
    simp [Controller.started]
  · rw [if_neg hj, hq j]
    constructor
    · rintro ⟨e, he, rfl⟩
      exact ⟨e, List.mem_filter.2 ⟨he, by simpa using hj⟩, rfl⟩
    · rintro ⟨e, he, rfl⟩
      exact ⟨e, (List.mem_filter.1 he).1, rfl⟩

/-! ### The law of the charges, rail states apart -/

/-- Every charge of the part. -/
def State.allCharges (s : State) : List Charge := s.accounts.railA.charges ++ s.accounts.railB.charges

/-- The law of the charges, but for the states of the rails that carry them. -/
structure ChargeCore (s : State) : Prop where
  charged : ∀ c, (s.ctl c).state.charged = true ↔ ∃ r, ∃ x ∈ (s.account r).charges, x.chan = c
  carried : ∀ r, ∀ x ∈ (s.account r).charges, (s.ctl x.chan).chargedRail = some r ∧
    (s.ctl x.chan).grantNumber = x.grantNumber ∧ x.grantNumber < s.grantCounter
  sorted : ∀ r, (s.account r).charges.Pairwise fun x y => x.precedes y = true
  chans : (s.allCharges.map Charge.chan).Nodup
  numbers : (s.allCharges.map Charge.grantNumber).Nodup

/-- Only rails that are UP or FALLING, and `lost`, carry charges. -/
def RailsLive (s : State) (live : Rail → Prop) : Prop := ∀ r, (s.account r).charges ≠ [] → live r

theorem chargeLaw_iff (s : State) : ChargeLaw s ↔
    ChargeCore s ∧ RailsLive s fun r => (s.rail r).state = .up ∨ (s.rail r).state = .falling := by
  have hp : (fun x y : Charge => x.precedes y = true) = fun x y => x.grantNumber < y.grantNumber := by
    funext x y
    exact propext (Charge.precedes_iff x y)
  constructor
  · rintro ⟨h1, h2, h3, h4, h5⟩
    refine ⟨⟨h1, fun r x hx => ?_, fun r => hp ▸ h3 r, h4, h5⟩, fun r hr => ?_⟩
    · obtain ⟨a, b, -, d⟩ := h2 r x hx
      exact ⟨a, b, d⟩
    · obtain ⟨x, hx⟩ := List.exists_mem_of_ne_nil _ hr
      exact (h2 r x hx).2.2.1
  · rintro ⟨⟨h1, h2, h3, h4, h5⟩, h6⟩
    refine ⟨h1, fun r x hx => ?_, fun r => hp ▸ h3 r, h4, h5⟩
    obtain ⟨a, b, d⟩ := h2 r x hx
    exact ⟨a, b, h6 r (List.ne_nil_of_mem hx), d⟩

theorem mem_allCharges (s : State) (x : Charge) : x ∈ s.allCharges ↔ ∃ r, x ∈ (s.account r).charges := by
  rw [Rail.exists_iff]
  exact List.mem_append

/-- The law follows from a state of the same charges, controllers' states and numbers. -/
theorem ChargeCore.of_same {s t : State} (h : ChargeCore s) (ha : ∀ r, (t.account r).charges = (s.account r).charges)
    (hs : ∀ c, (t.ctl c).state.charged = (s.ctl c).state.charged)
    (hr : ∀ c, (s.ctl c).state.charged = true → (t.ctl c).chargedRail = (s.ctl c).chargedRail ∧
      (t.ctl c).grantNumber = (s.ctl c).grantNumber) (hg : t.grantCounter = s.grantCounter) : ChargeCore t := by
  have hall : t.allCharges = s.allCharges := congrArg₂ (· ++ ·) (ha .a) (ha .b)
  refine ⟨fun c => ?_, fun r x hx => ?_, fun r => ?_, by rw [hall]; exact h.chans, by rw [hall]; exact h.numbers⟩
  · rw [hs, h.charged]
    simp only [ha]
  · rw [ha] at hx
    obtain ⟨h1, h2⟩ := hr x.chan ((h.charged x.chan).2 ⟨r, x, hx, rfl⟩)
    rw [h1, h2, hg]
    exact h.carried r x hx
  · rw [ha]
    exact h.sorted r

/-- The charge of one channel taken away, the channel uncharged. -/
theorem ChargeCore.of_without {s t : State} {c : Chan} (h : ChargeCore s)
    (ha : ∀ r, t.account r = (s.account r).without c) (hc : (t.ctl c).state.charged = false)
    (hs : ∀ j ≠ c, t.ctl j = s.ctl j) (hg : t.grantCounter = s.grantCounter) : ChargeCore t := by
  have hcharges (r : Rail) : (t.account r).charges = (s.account r).charges.filter fun x => x.chan ≠ c := by
    rw [ha]; rfl
  have hmem (r : Rail) (x : Charge) : x ∈ (t.account r).charges ↔ x ∈ (s.account r).charges ∧ x.chan ≠ c := by
    rw [hcharges, List.mem_filter]
    simp
  have hall : t.allCharges = s.allCharges.filter fun x => x.chan ≠ c := by
    have e : t.allCharges = (t.account .a).charges ++ (t.account .b).charges := rfl
    rw [e, hcharges, hcharges, ← List.filter_append]
    rfl
  have hsub : t.allCharges.Sublist s.allCharges := hall ▸ List.filter_sublist
  refine ⟨fun j => ?_, fun r x hx => ?_, fun r => ?_, h.chans.sublist (hsub.map _),
    h.numbers.sublist (hsub.map _)⟩
  · by_cases hj : j = c
    · subst hj
      simp [hc, hmem]
    · rw [hs j hj, h.charged j]
      constructor
      · rintro ⟨r, x, hx, rfl⟩
        exact ⟨r, x, (hmem r x).2 ⟨hx, hj⟩, rfl⟩
      · rintro ⟨r, x, hx, rfl⟩
        exact ⟨r, x, ((hmem r x).1 hx).1, rfl⟩
  · obtain ⟨hx, hne⟩ := (hmem r x).1 hx
    rw [hs _ hne, hg]
    exact h.carried r x hx
  · rw [hcharges]
    exact (h.sorted r).sublist List.filter_sublist

/-- A charge placed for a channel that has none, under a number that no other has. -/
theorem ChargeCore.of_insert {s t : State} {x : Charge} {r : Rail} (h : ChargeCore s)
    (ha : (t.account r).charges = insertBy Charge.precedes x (s.account r).charges)
    (hother : ∀ q ≠ r, (t.account q).charges = (s.account q).charges)
    (hno : (s.ctl x.chan).state.charged = false) (hnum : ∀ y ∈ s.allCharges, y.grantNumber ≠ x.grantNumber)
    (hc : (t.ctl x.chan).state.charged = true ∧ (t.ctl x.chan).chargedRail = some r ∧
      (t.ctl x.chan).grantNumber = x.grantNumber) (hs : ∀ j ≠ x.chan, t.ctl j = s.ctl j)
    (hg : s.grantCounter ≤ t.grantCounter) (hx : x.grantNumber < t.grantCounter) : ChargeCore t := by
  have hfree (q : Rail) (y : Charge) (hy : y ∈ (s.account q).charges) : y.chan ≠ x.chan := fun e => by
    rw [(h.charged x.chan).2 ⟨q, y, hy, e⟩] at hno
    cases hno
  have hmem (q : Rail) (y : Charge) : y ∈ (t.account q).charges ↔
      y ∈ (s.account q).charges ∨ q = r ∧ y = x := by
    by_cases hq : q = r
    · subst hq
      rw [ha, mem_insertBy]
      constructor
      · rintro (rfl | hy)
        · exact .inr ⟨rfl, rfl⟩
        · exact .inl hy
      · rintro (hy | ⟨-, rfl⟩)
        · exact .inr hy
        · exact .inl rfl
    · rw [hother q hq]
      simp [hq]
  have hperm : t.allCharges.Perm (x :: s.allCharges) := by
    have e : t.allCharges = (t.account .a).charges ++ (t.account .b).charges := rfl
    have e' : s.allCharges = (s.account .a).charges ++ (s.account .b).charges := rfl
    rw [e, e']
    cases r with
    | a =>
      rw [ha, hother .b (by simp)]
      exact (insertBy_perm _ _ _).append_right _
    | b =>
      rw [ha, hother .a (by simp)]
      exact ((insertBy_perm _ _ _).append_left _).trans List.perm_middle
  refine ⟨fun j => ?_, fun q y hy => ?_, fun q => ?_, ?_, ?_⟩
  · by_cases hj : j = x.chan
    · subst hj
      simp only [hc.1, true_iff]
      exact ⟨r, x, (hmem r x).2 (.inr ⟨rfl, rfl⟩), rfl⟩
    · rw [hs j hj, h.charged j]
      constructor
      · rintro ⟨q, y, hy, rfl⟩
        exact ⟨q, y, (hmem q y).2 (.inl hy), rfl⟩
      · rintro ⟨q, y, hy, rfl⟩
        rcases (hmem q y).1 hy with hy | ⟨-, rfl⟩
        · exact ⟨q, y, hy, rfl⟩
        · exact absurd rfl hj
  · rcases (hmem q y).1 hy with hy | ⟨rfl, rfl⟩
    · rw [hs _ (hfree q y hy)]
      obtain ⟨h1, h2, h3⟩ := h.carried q y hy
      exact ⟨h1, h2, Nat.lt_of_lt_of_le h3 hg⟩
    · exact ⟨hc.2.1, hc.2.2, hx⟩
  · by_cases hq : q = r
    · subst hq
      rw [ha]
      refine insertBy_pairwise (p := Charge.precedes) Charge.precedes_trans (fun y hy => ?_) (h.sorted q)
      exact Charge.precedes_total (Ne.symm (hnum y ((mem_allCharges s y).2 ⟨q, hy⟩)))
    · rw [hother q hq]
      exact h.sorted q
  · rw [(hperm.map _).nodup_iff, List.map_cons, List.nodup_cons]
    refine ⟨fun hy => ?_, h.chans⟩
    obtain ⟨y, hy, e⟩ := List.mem_map.1 hy
    obtain ⟨q, hy⟩ := (mem_allCharges s y).1 hy
    exact hfree q y hy e
  · rw [(hperm.map _).nodup_iff, List.map_cons, List.nodup_cons]
    refine ⟨fun hy => ?_, h.numbers⟩
    obtain ⟨y, hy, e⟩ := List.mem_map.1 hy
    exact hnum y hy e

theorem ChargeCore.turns {s t : State} {c : Chan} {k : Controller} (h : ChargeCore s) (ht : Turns s t c k)
    (hk : k.state.charged = true → (s.ctl c).state.charged = true ∧
      k.chargedRail = (s.ctl c).chargedRail ∧ k.grantNumber = (s.ctl c).grantNumber) : ChargeCore t := by
  by_cases hgone : (s.ctl c).state.charged = true ∧ k.state.charged = false
  · refine h.of_without (c := c) (fun r => ?_) (by rw [ht.ctl_self]; exact hgone.2)
      (fun j hj => ht.ctl_ne hj) ht.grants
    rw [ht.account, State.recharged, if_pos hgone]
  · have hsame : k.state.charged = (s.ctl c).state.charged := by
      cases hc : k.state.charged with
      | true => exact (hk hc).1.symm
      | false => cases hsc : (s.ctl c).state.charged with
        | true => exact absurd ⟨hsc, hc⟩ hgone
        | false => rfl
    refine h.of_same (fun r => ?_) (fun j => ?_) (fun j hj => ?_) ht.grants
    · rw [ht.account, State.recharged, if_neg hgone]
    · rw [ht.ctl]
      split
      next e => rw [hsame, e]
      next => rfl
    · rw [ht.ctl]
      split
      next e =>
        subst e
        exact (hk (hsame.trans hj)).2
      next => exact ⟨rfl, rfl⟩

theorem ChargeCore.granted {s t : State} {c : Chan} {r : Rail} (h : ChargeCore s) (ht : Granted s t c r)
    (hc : (s.ctl c).state.charged = false) : ChargeCore t := by
  refine h.of_insert (x := ⟨c, (s.cfg c).classAU, s.grantCounter⟩) (r := r) ?_ (fun q hq => ?_) hc
    (fun y hy => ?_) ?_ (fun j hj => ?_) ?_ ?_
  · rw [ht.account, if_pos rfl]
  · rw [ht.account, if_neg hq]
  · obtain ⟨q, hy⟩ := (mem_allCharges s y).1 hy
    exact Nat.ne_of_lt (h.carried q y hy).2.2
  · rw [ht.ctl, if_pos rfl]
    exact ⟨rfl, rfl, rfl⟩
  · rw [ht.ctl, if_neg hj]
  · rw [ht.grants]
    exact Nat.le_succ _
  · rw [ht.grants]
    exact Nat.lt_succ_self _

end Sys2Proof.Machine
end

section
/-! PROOFS. Small steps as turns of one controller each; the queue and the accounts under recomputations, faults, examinations and rail losses. -/

namespace Sys2Proof.Machine

/-! ### A small step turns one controller -/

/-- The controllers that a demand arrival, a demand loss or a stop makes of `k`. -/
inductive Turned (f : ChannelConfig) (k : Controller) : Controller → Prop where
  | arrived : Turned f k (k.arrived f)
  | lost : Turned f k (k.lost f)
  | stopped : k.state.charged = true → Turned f k (k.stopped f)

theorem abandoned_charged (k : Controller) (f : ChannelConfig) : (k.abandoned f).state.charged = false := by
  unfold Controller.abandoned
  split
  · rfl
  · exact rested_charged _ f

theorem lost_charged (k : Controller) (f : ChannelConfig) : (k.lost f).state.charged = false := by
  by_cases hc : k.state.charged = true
  · rw [lost_of_charged f hc]
    exact stopped_charged _ f
  by_cases hq : k.state = .queued
  · rw [lost_of_queued f hq]
    exact rested_charged _ f
  by_cases hr : k.state = .retryWait
  · rw [lost_of_retryWait f hr]
    exact abandoned_charged _ f
  · rw [lost_of_idle f hq hr (by simpa using hc)]
    exact eq_false_of_ne_true hc

/-- A controller that is still charged has its rail and its grant number. -/
theorem Turned.charge_kept {f : ChannelConfig} {k k' : Controller} (h : Turned f k k')
    (hc : k'.state.charged = true) : k.state.charged = true ∧ k'.chargedRail = k.chargedRail ∧
      k'.grantNumber = k.grantNumber := by
  cases h with
  | arrived =>
    refine ⟨?_, rfl, rfl⟩
    unfold Controller.arrived at hc
    dsimp only at hc
    split at hc
    · cases hc
    · exact hc
  | lost => rw [lost_charged] at hc; cases hc
  | stopped _ => rw [stopped_charged] at hc; cases hc

/-- What a small step can be: nothing of the core, an entry moved, one controller turned, or a shed. -/
theorem Bit.cases_turns {s t : State} (h : Bit s t) : SameCore s t ∨ (∃ c, t = s.reprioritize c) ∨
    (∃ c k, Turns s t c k ∧ Turned (s.cfg c) (s.ctl c) k) ∨
    ∃ (r : Rail) (v : List Charge), v.Subperm (s.account r).charges ∧
      (∀ x ∈ v, (s.ctl x.chan).state.closed = true) ∧ t = v.foldl (fun t x => t.stopOne .shed x.chan) s := by
  cases h with
  | draw n => exact .inl (sameCore_draw s n)
  | arrived c _ => exact .inr (.inr (.inl ⟨c, _, turns_demandArrival s c, .arrived⟩))
  | lost c hc _ => exact .inr (.inr (.inl ⟨c, _, turns_demandLoss hc, .lost⟩))
  | released c hc _ =>
    refine .inr (.inr (.inl ⟨c, _, turns_released hc, ?_⟩))
    rw [← lost_of_charged _ hc]
    exact .lost
  | reprioritized c => exact .inr (.inl ⟨c, rfl⟩)
  | stopped cause c hc => exact .inr (.inr (.inl ⟨c, _, turns_stopOne cause hc, .stopped hc⟩))
  | shed r v hv hc => exact .inr (.inr (.inr ⟨r, v, hv, hc, rfl⟩))

theorem Bit.moves {s t : State} (h : Bit s t) : Moves s t := by
  cases h with
  | draw n => exact moves_draw s n
  | arrived c _ => exact moves_demandArrival s c
  | lost c _ _ => exact moves_demandLoss s c
  | released c _ _ => exact (moves_setCtl s c _).trans (moves_stopOne _ _ c)
  | reprioritized c => exact moves_reprioritize s c
  | stopped cause c _ => exact moves_stopOne s cause c
  | shed r v _ _ => exact moves_foldl _ (fun t x => moves_stopOne t .shed x.chan) v s

theorem moves_valued (s : State) : Moves s s.valued := by
  unfold State.valued
  generalize tabulate s.demandNow = values
  exact .of_same ⟨rfl, rfl, rfl, rfl, rfl, rfl, rfl, rfl, rfl, rfl⟩ rfl

theorem moves_faultOne (s : State) (cause : FaultCause) (c : Chan) : Moves s (s.faultOne cause c) :=
  (((moves_uncharge s c).trans (moves_quiet _ c)).trans (moves_setCtl _ c _)).trans
    (moves_reportChannel _ c _)

theorem moves_grantEntry (s : State) (c : Chan) (r : Rail) : Moves s (s.grantEntry c r) := by
  refine .trans (.trans ?_ (moves_charge _ r _)) (moves_setCtl _ c _)
  exact .of_same ⟨rfl, rfl, rfl, rfl, rfl, rfl, rfl, rfl, rfl, rfl⟩ rfl

theorem Act.moves {s t : State} (h : Act s t) : Moves s t := by
  cases h with
  | bit hb => exact hb.moves
  | valued => exact moves_valued s
  | faulted cause c _ => exact moves_faultOne s cause c
  | granted e r _ _ => exact moves_grantEntry s e.chan r

theorem ChargeCore.chans_nodup {s : State} (h : ChargeCore s) (r : Rail) :
    ((s.account r).charges.map Charge.chan).Nodup := by
  have hall := h.chans
  unfold State.allCharges at hall
  rw [List.map_append] at hall
  cases r with
  | a => exact hall.of_append_left
  | b => exact hall.of_append_right

/-- Stops of channels that are charged, each once. -/
theorem foldl_stopOne_keeps {P : State → Prop} {cause : StopCause}
    (hstop : ∀ {t : State} {c : Chan}, (t.ctl c).state.charged = true → P t → P (t.stopOne cause c)) :
    ∀ {v : List Charge} {s : State}, (v.map Charge.chan).Nodup →
      (∀ x ∈ v, (s.ctl x.chan).state.charged = true) → P s →
      P (v.foldl (fun t x => t.stopOne cause x.chan) s)
  | [], _, _, _, hs => hs
  | x :: v, s, hn, hc, hs => by
    rw [List.map_cons, List.nodup_cons] at hn
    rw [List.foldl_cons]
    refine foldl_stopOne_keeps hstop hn.2 (fun y hy => ?_) (hstop (hc x (by simp)) hs)
    have hne : y.chan ≠ x.chan := fun e => hn.1 (e ▸ List.mem_map_of_mem hy)
    rw [stopOne_ctl, if_neg hne]
    exact hc y (List.mem_cons_of_mem x hy)

theorem nodup_map_of_subperm {α β : Type} {f : α → β} {v l : List α} (h : v.Subperm l)
    (hn : (l.map f).Nodup) : (v.map f).Nodup := by
  obtain ⟨w, hp, hs⟩ := h
  exact (hp.map f).nodup_iff.1 (hn.sublist (hs.map f))

/-- Where each channel is charged once, a law that turns keep is kept by every small step. -/
theorem Bit.keeps_of_turns {P : State → Prop} (hcore : ∀ {s}, P s → ChargeCore s)
    (hsame : ∀ {s t}, SameCore s t → P s → P t) (hrep : ∀ {s} (c : Chan), P s → P (s.reprioritize c))
    (hturn : ∀ {s t : State} {c : Chan} {k : Controller}, Turns s t c k → Turned (s.cfg c) (s.ctl c) k →
      P s → P t) {s t : State} (h : Bit s t) (hs : P s) : P t := by
  rcases h.cases_turns with h | ⟨c, rfl⟩ | ⟨c, k, ht, hk⟩ | ⟨r, v, hv, hc, rfl⟩
  · exact hsame h hs
  · exact hrep c hs
  · exact hturn ht hk hs
  · refine foldl_stopOne_keeps (fun hx hp => hturn (turns_stopOne .shed hx) (.stopped hx) hp) ?_
      (fun x hx => ChannelState.charged_of_closed (hc x hx)) hs
    exact nodup_map_of_subperm hv ((hcore hs).chans_nodup r)

/-! ### The queue and the accounts -/

/-- Queue, accounts and controllers agree, and only `live` rails carry charges. -/
structure Allocated (live : Rail → Prop) (s : State) : Prop where
  queue : QueueLaw s
  core : ChargeCore s
  rails : RailsLive s live

theorem allocationLaw_iff (s : State) : AllocationLaw s ↔
    Allocated (fun r => (s.rail r).state = .up ∨ (s.rail r).state = .falling) s := by
  rw [AllocationLaw, chargeLaw_iff]
  exact ⟨fun h => ⟨h.1, h.2.1, h.2.2⟩, fun h => ⟨h.queue, h.core, h.rails⟩⟩

theorem Allocated.mono {live live' : Rail → Prop} {s : State} (h : Allocated live s)
    (hl : ∀ r, live r → live' r) : Allocated live' s :=
  ⟨h.queue, h.core, fun r hr => hl r (h.rails r hr)⟩

theorem SameCore.queueLaw {s t : State} (e : SameCore s t) (h : QueueLaw s) : QueueLaw t := by
  unfold QueueLaw at *
  simp only [e.ctl, e.queue, e.admission]
  exact h

theorem Allocated.same {live : Rail → Prop} {s t : State} (e : SameCore s t) (h : Allocated live s) :
    Allocated live t :=
  ⟨e.queueLaw h.queue, h.core.of_same (fun r => by rw [e.account]) (fun c => by rw [e.ctl])
    (fun c _ => by rw [e.ctl]; exact ⟨rfl, rfl⟩) e.grants, fun r hr => h.rails r (by rwa [e.account] at hr)⟩

theorem Allocated.turns {live : Rail → Prop} {s t : State} {c : Chan} {k : Controller}
    (h : Allocated live s) (ht : Turns s t c k)
    (hk : k.state.charged = true → (s.ctl c).state.charged = true ∧
      k.chargedRail = (s.ctl c).chargedRail ∧ k.grantNumber = (s.ctl c).grantNumber) :
    Allocated live t := by
  refine ⟨h.queue.turns ht, h.core.turns ht hk, fun r hr => h.rails r fun hnil => hr ?_⟩
  rw [ht.account, State.recharged]
  split
  · simp [Account.without, hnil]
  · exact hnil

theorem Allocated.reprioritize {live : Rail → Prop} {s : State} (h : Allocated live s) (c : Chan) :
    Allocated live (s.reprioritize c) := by
  have hq := h.queue.reprioritize c
  rcases reprioritize_cases s c with ⟨hr, -⟩ | ⟨e, -, -, hr⟩
  · rwa [hr]
  · rw [hr] at hq ⊢
    exact ⟨hq, h.core.of_same (fun _ => rfl) (fun _ => rfl) (fun _ _ => ⟨rfl, rfl⟩) rfl, h.rails⟩

theorem Allocated.bit {live : Rail → Prop} {s t : State} (hb : Bit s t) (h : Allocated live s) :
    Allocated live t :=
  hb.keeps_of_turns (fun h => h.core) .same (fun c h => h.reprioritize c)
    (fun ht hk h => h.turns ht hk.charge_kept) h

theorem Allocated.bits {live : Rail → Prop} {s t : State} (hb : Bits s t) (h : Allocated live s) :
    Allocated live t := hb.keeps (fun hb h => h.bit hb) h

/-- A state of the same controllers, queue, accounts and counters. -/
theorem Allocated.of_core {live : Rail → Prop} {s t : State} (h : Allocated live s)
    (hc : t.channels = s.channels) (hq : t.queue = s.queue) (ha : t.admissionCounter = s.admissionCounter)
    (hg : t.grantCounter = s.grantCounter) (hx : ∀ r, (t.account r).charges = (s.account r).charges) :
    Allocated live t := by
  have hctl (c : Chan) : t.ctl c = s.ctl c := by simp [State.ctl, hc]
  refine ⟨?_, h.core.of_same hx (fun c => by rw [hctl]) (fun c _ => by rw [hctl]; exact ⟨rfl, rfl⟩) hg,
    fun r hr => h.rails r (by rwa [hx] at hr)⟩
  have hq' := h.queue
  unfold QueueLaw at *
  simp only [hctl, hq, ha]
  exact hq'

theorem Allocated.valued {live : Rail → Prop} {s : State} (h : Allocated live s) : Allocated live s.valued := by
  unfold State.valued
  generalize tabulate s.demandNow = values
  exact h.of_core rfl rfl rfl rfl fun _ => rfl

theorem faulted_charged (k : Controller) (f : ChannelConfig) (cause : FaultCause) :
    (k.faulted f cause).state.charged = false := by
  unfold Controller.faulted
  dsimp only
  split <;> rfl

theorem uncharged_keeps {k k' : Controller} (h : k'.state.charged = false) (hc : k'.state.charged = true) :
    k.state.charged = true ∧ k'.chargedRail = k.chargedRail ∧ k'.grantNumber = k.grantNumber := by
  rw [h] at hc; cases hc

theorem Allocated.faultOne {live : Rail → Prop} {s : State} (h : Allocated live s) (cause : FaultCause)
    {c : Chan} (hc : (s.ctl c).state.closed = true) : Allocated live (s.faultOne cause c) :=
  h.turns (turns_faultOne cause (ChannelState.charged_of_closed hc)) (uncharged_keeps (faulted_charged _ _ _))

theorem QueueLaw.queued {s : State} (h : QueueLaw s) {e : QueueEntry} (he : e ∈ s.queue) :
    (s.ctl e.chan).state = .queued := (h.1 e.chan).2 ⟨e, he, rfl⟩

theorem Allocated.grantEntry {live : Rail → Prop} {s : State} (h : Allocated live s) {e : QueueEntry}
    (he : e ∈ s.queue) {r : Rail} (hr : live r) : Allocated live (s.grantEntry e.chan r) := by
  have ht := granted_grantEntry s e.chan r
  refine ⟨h.queue.granted ht, h.core.granted ht (by rw [h.queue.queued he]; rfl), fun q hq => ?_⟩
  by_cases hqr : q = r
  · rw [hqr]; exact hr
  · rw [ht.account, if_neg hqr] at hq
    exact h.rails q hq

/-! ### The rail loss (R119 to R124) -/

theorem Allocated.switchOne {live : Rail → Prop} {s : State} (h : Allocated live s) {x : Charge}
    {lost new : Rail} (hx : x ∈ (s.account lost).charges) (hnew : live new) :
    Allocated live (s.switchOne x lost new) := by
  have ht := moved_switchOne s x lost new
  have hcharged : (s.ctl x.chan).state.charged = true := (h.core.charged x.chan).2 ⟨lost, x, hx, rfl⟩
  obtain ⟨-, hgrant, hlt⟩ := h.core.carried lost x hx
  have hq : QueueLaw (s.switchOne x lost new) := by
    have hqs := h.queue
    have hst (c : Chan) : ((s.switchOne x lost new).ctl c).state = .queued ↔ (s.ctl c).state = .queued := by
      rw [ht.ctl]
      split
      next e =>
        subst e
        have := ChannelState.ne_queued_of_charged hcharged
        simp [Controller.switched, this]
      next => rfl
    unfold QueueLaw at *
    simp only [hst, ht.queue, ht.admission]
    exact hqs
  -- first the charge is taken away, then it is placed on the other rail
  let u : State := (s.uncharge x.chan).setCtl x.chan { s.ctl x.chan with state := .off }
  have hu : ChargeCore u := by
    refine h.core.of_without (c := x.chan) (fun r => account_uncharge s x.chan r) ?_ (fun j hj => ?_) rfl
    · rw [State.ctl_setCtl]; rfl
    · rw [State.ctl_setCtl_of, if_neg hj]
      rfl
  have huacc (r : Rail) : u.account r = (s.account r).without x.chan := account_uncharge s x.chan r
  have hucharges (y : Charge) (hy : y ∈ u.allCharges) : y ∈ s.allCharges ∧ y.chan ≠ x.chan := by
    obtain ⟨r, hy⟩ := (mem_allCharges u y).1 hy
    rw [huacc, Account.without, List.mem_filter] at hy
    exact ⟨(mem_allCharges s y).2 ⟨r, hy.1⟩, by simpa using hy.2⟩
  refine ⟨hq, hu.of_insert (x := x) (r := new) ?_ (fun q hq => ?_) ?_ (fun y hy e => ?_) ?_
    (fun j hj => ?_) ?_ ?_, fun q hq => ?_⟩
  · rw [ht.account, if_pos rfl, huacc]
  · rw [ht.account, if_neg hq, huacc]
  · rw [State.ctl_setCtl]; rfl
  · obtain ⟨hmem, hne⟩ := hucharges y hy
    have hinj := List.inj_on_of_nodup_map h.core.numbers hmem ((mem_allCharges s x).2 ⟨lost, hx⟩) e
    exact hne (by rw [hinj])
  · rw [ht.ctl, if_pos rfl]
    exact ⟨rfl, rfl, hgrant⟩
  · rw [ht.ctl, if_neg hj, State.ctl_setCtl_of, if_neg hj]
    rfl
  · exact Nat.le_of_eq ht.grants.symm
  · rw [ht.grants]; exact hlt
  · by_cases hqn : q = new
    · rw [hqn]; exact hnew
    · rw [ht.account, if_neg hqn] at hq
      exact h.rails q fun hnil => hq (by simp [Account.without, hnil])

end Sys2Proof.Machine
end

section
/-! PROOFS. The rail loss: the loss list takes every charge off the lost rail, and the law of the queue and the accounts stands. -/

namespace Sys2Proof.Machine

/-! ### Charges under stops and small steps -/

theorem endWait_account (s : State) (c : Chan) (r : Rail) : (s.endWait c).account r = s.account r := by
  unfold State.endWait State.enterOff
  dsimp only
  split
  · rfl
  · split <;> rfl

/-- A stop takes the channel's charges away, and no other. -/
theorem stopOne_account (s : State) (cause : StopCause) (c : Chan) (r : Rail) :
    (s.stopOne cause c).account r = (s.account r).without c := by
  unfold State.stopOne
  dsimp only
  rw [(sameCore_reportChannel _ _ _).account]
  split
  · rw [endWait_account]
    exact account_uncharge s c r
  · exact account_uncharge s c r

theorem mem_without (x : Account) (c : Chan) (y : Charge) :
    y ∈ (x.without c).charges ↔ y ∈ x.charges ∧ y.chan ≠ c := by
  simp [Account.without]

theorem mem_shed (r : Rail) (y : Charge) : ∀ (v : List Charge) (s : State),
    y ∈ ((v.foldl (fun t x => t.stopOne .shed x.chan) s).account r).charges ↔
      y ∈ (s.account r).charges ∧ ∀ x ∈ v, y.chan ≠ x.chan
  | [], s => by simp
  | x :: v, s => by
    rw [List.foldl_cons, mem_shed r y v, stopOne_account, mem_without]
    simp [and_assoc]

/-- No charge appears. -/
def Shrinks (s t : State) : Prop :=
  ∀ r, ∀ y ∈ (t.account r).charges, y ∈ (s.account r).charges

theorem Shrinks.refl (s : State) : Shrinks s s := fun _ _ h => h

theorem Shrinks.trans {s t u : State} (h : Shrinks s t) (k : Shrinks t u) : Shrinks s u :=
  fun r y hy => h r y (k r y hy)

theorem shrinks_stopOne (s : State) (cause : StopCause) (c : Chan) : Shrinks s (s.stopOne cause c) :=
  fun r y hy => by
    rw [stopOne_account, mem_without] at hy
    exact hy.1

theorem Turns.shrinks {s t : State} {c : Chan} {k : Controller} (h : Turns s t c k) : Shrinks s t :=
  fun r y hy => by
    rw [h.account, State.recharged] at hy
    split at hy
    · exact ((mem_without _ _ _).1 hy).1
    · exact hy

theorem SameCore.shrinks {s t : State} (h : SameCore s t) : Shrinks s t := fun r y hy => by
  rwa [h.account] at hy

theorem reprioritize_account (s : State) (c : Chan) (r : Rail) : (s.reprioritize c).account r = s.account r := by
  unfold State.reprioritize
  split <;> rfl

/-- Small steps place no charge. -/
theorem Bit.shrinks {s t : State} (h : Bit s t) : Shrinks s t := by
  rcases h.cases_turns with h | ⟨c, rfl⟩ | ⟨c, k, ht, -⟩ | ⟨r, v, -, -, rfl⟩
  · exact h.shrinks
  · intro r y hy
    rwa [reprioritize_account] at hy
  · exact ht.shrinks
  · exact fun q y hy => ((mem_shed q y v s).1 hy).1

theorem Bits.shrinks {s t : State} (h : Bits s t) : Shrinks s t :=
  h.keeps (P := Shrinks s) (fun hb hs => hs.trans hb.shrinks) (.refl s)

theorem Shrinks.uncharged {s t : State} (h : Shrinks s t) {c : Chan} (hc : Uncharged s c) : Uncharged t c :=
  fun r x hx => hc r x (h r x hx)

theorem uncharged_stopOne (s : State) (cause : StopCause) (c : Chan) : Uncharged (s.stopOne cause c) c :=
  fun r x hx => by
    rw [stopOne_account, mem_without] at hx
    exact hx.2

theorem uncharged_stop (s : State) (cause : StopCause) (c : Chan) : Uncharged (s.stop cause c) c :=
  (bits_stopTree _ cause c s).shrinks.uncharged (uncharged_stopOne s cause c)

/-! ### One channel of the loss list -/

theorem otherRail_eq_some {s : State} {c : Chan} {lost r : Rail} (h : s.otherRail c lost = some r) :
    r ≠ lost := by
  have := List.find?_some h
  simpa using this

theorem moveOf_eq_some {s : State} {lost r : Rail} {x : LossEntry} {v : List Charge}
    (h : s.moveOf lost x = some (r, v)) : r ≠ lost ∧ s.otherRail x.charge.chan lost = some r ∧
      s.isUp r = true ∧ s.victims r x.priority x.charge.classAU = some v := by
  unfold State.moveOf at h
  split at h
  next q hq =>
    split at h
    next hup =>
      obtain ⟨w, hw, hwc⟩ := Option.map_eq_some_iff.1 h
      cases hwc
      exact ⟨otherRail_eq_some hq, hq, hup, hw⟩
    next => cases h
  next => cases h

/-- What a channel of the loss list does: passed over, moved, or stopped. -/
theorem takeLoss_cases (s : State) (lost : Rail) (x : LossEntry) :
    (x.charge ∉ (s.account lost).charges ∧ s.takeLoss lost x = s) ∨
    (x.charge ∈ (s.account lost).charges ∧ s.moveOf lost x = none ∧
      s.takeLoss lost x = s.stop .railLost x.charge.chan) ∨
    ∃ r v, x.charge ∈ (s.account lost).charges ∧ s.moveOf lost x = some (r, v) ∧
      s.takeLoss lost x = ((s.shed v).moveCharge x.charge r).enterSwitchover x.charge.chan lost r := by
  unfold State.takeLoss
  split
  next hx =>
    split
    next r v hm => exact .inr (.inr ⟨r, v, hx, hm, rfl⟩)
    next hm => exact .inr (.inl ⟨hx, hm, rfl⟩)
  next hx => exact .inl ⟨hx, rfl⟩

/-- After the move's first step, a cascade is small steps. -/
theorem bits_enterSwitchover (s : State) (x : Charge) (lost new : Rail) :
    Bits (s.switchOne x lost new) ((s.moveCharge x new).enterSwitchover x.chan lost new) := by
  rw [enterSwitchover_moveCharge]
  split
  · exact bits_cascade _ _
  · exact .refl _

/-- A move takes every charge of its channel off the lost rail and places none there. -/
theorem mem_lost_of_move {s : State} {x y : Charge} {lost new : Rail} (hne : new ≠ lost)
    (hy : y ∈ (((s.moveCharge x new).enterSwitchover x.chan lost new).account lost).charges) :
    y ∈ (s.account lost).charges ∧ y.chan ≠ x.chan := by
  have h1 := (bits_enterSwitchover s x lost new).shrinks lost y hy
  rw [(moved_switchOne s x lost new).account, if_neg (Ne.symm hne)] at h1
  exact (mem_without _ _ _).1 h1

theorem mem_lost_of_takeLoss {s : State} {lost : Rail} {x : LossEntry} {y : Charge}
    (hy : y ∈ ((s.takeLoss lost x).account lost).charges) :
    y ∈ (s.account lost).charges ∧ y ≠ x.charge := by
  rcases takeLoss_cases s lost x with ⟨hx, h⟩ | ⟨hx, -, h⟩ | ⟨r, v, hx, hm, h⟩
  · rw [h] at hy
    exact ⟨hy, fun e => hx (e ▸ hy)⟩
  · rw [h] at hy
    have h1 := (bits_stopTree _ _ _ _).shrinks lost y hy
    rw [stopOne_account, mem_without] at h1
    exact ⟨h1.1, fun e => h1.2 (by rw [e])⟩
  · rw [h] at hy
    obtain ⟨hne, -, -, hv⟩ := moveOf_eq_some hm
    obtain ⟨h1, h2⟩ := mem_lost_of_move hne hy
    rw [shed_victims hv] at h1
    exact ⟨((mem_shed lost y v s).1 h1).1, fun e => h2 (by rw [e])⟩

/-- The loss list leaves no charge on the rail. -/
theorem foldl_takeLoss_charges {lost : Rail} : ∀ (l : List LossEntry) (s : State),
    (∀ y ∈ (s.account lost).charges, y ∈ l.map LossEntry.charge) →
    ((l.foldl (fun u x => u.takeLoss lost x) s).account lost).charges = []
  | [], s, h => List.eq_nil_iff_forall_not_mem.2 fun y hy => by simpa using h y hy
  | x :: l, s, h => by
    rw [List.foldl_cons]
    refine foldl_takeLoss_charges l _ fun y hy => ?_
    obtain ⟨h1, h2⟩ := mem_lost_of_takeLoss hy
    rcases List.mem_cons.1 (h y h1) with e | e
    · exact absurd e h2
    · exact e

theorem lossList_charges (s : State) (r : Rail) :
    ((s.lossList r).map LossEntry.charge).Perm (s.account r).charges := by
  have h : (s.lossList r).Perm ((s.account r).charges.map fun x => ⟨x, (s.dem x.chan).priority⟩) :=
    sortBy_perm _ _
  have h2 := h.map LossEntry.charge
  rwa [List.map_map, show LossEntry.charge ∘ (fun x : Charge => LossEntry.mk x (s.dem x.chan).priority) = id
    from rfl, List.map_id] at h2

/-- The rail taken DOWN, before the loss list is taken. -/
def State.railDown (s : State) (r : Rail) : State :=
  s.setRail r { s.rail r with state := .down, lossTimer := none }

theorem loseRail_eq (s : State) (r : Rail) : s.loseRail r =
    (((s.lossList r).foldl (fun u x => u.takeLoss r x) (s.railDown r)).reportRail (.railDown r)) := rfl

theorem loseRail_charges (s : State) (r : Rail) : ((s.loseRail r).account r).charges = [] := by
  rw [loseRail_eq]
  refine foldl_takeLoss_charges (s.lossList r) (s.railDown r) fun y hy => ?_
  exact (lossList_charges s r).mem_iff.2 hy

/-- A charge about to move stays where it is while the victims on the other rail are shed. -/
theorem ChargeCore.stays_of_move {s : State} (h : ChargeCore s) {lost r : Rail} (hne : r ≠ lost) {p need : Nat}
    {v : List Charge} (hv : s.victims r p need = some v) {x : Charge} (hx : x ∈ (s.account lost).charges) :
    x ∈ ((s.shed v).account lost).charges := by
  rw [shed_victims hv]
  refine (mem_shed lost x v s).2 ⟨hx, fun y hy e => hne ?_⟩
  have h1 := (h.carried r y ((victims_spec hv).1.subset hy)).1
  rw [← e, (h.carried lost x hx).1] at h1
  exact (Option.some.inj h1).symm

end Sys2Proof.Machine
end

section
/-! PROOFS. Every event as a chain of whole steps: what a controller, the Claim Arbiter or the Budget Arbiter does
without interruption. The laws of the arbiters and the controllers are kept step by step along it. -/

namespace Sys2Proof.Machine

/-- What an event writes beside the controllers and the arbiters: sense items, notices, ports, claims, enable
lines; a rail monitor keeps its state and a notice queue its bound (R172). -/
structure Beside (s t : State) : Prop where
  core : SameCore s t
  railStates : ∀ r, (t.rail r).state = (s.rail r).state
  bounded : ∀ g, (s.noticesOf g).length ≤ 32 → (t.noticesOf g).length ≤ 32

/-- What an event writes beside them and apart from all that demand is computed from (R10 to R14). -/
structure Apart (s t : State) : Prop extends Beside s t where
  lines : ∀ k, (t.line k).qualified = (s.line k).qualified
  claims : ∀ c g, (t.claimOf c g).map Claim.priority = (s.claimOf c g).map Claim.priority

/-- A controller rewritten where it stands: timers, and a count cleared in ON or RETRY_WAIT (R63, R111). -/
structure Controller.StandsAs (k k' : Controller) : Prop where
  state : k'.state = k.state
  demand : k'.demand = k.demand
  chargedRail : k'.chargedRail = k.chargedRail
  grantNumber : k'.grantNumber = k.grantNumber
  count : k'.retryCount = k.retryCount ∨ k'.retryCount = 0 ∧ (k.state = .isOn ∨ k.state = .retryWait)

/-- A LATCHED channel cleared by CLEAR_FAULT, the recomputation not yet made (R111). -/
def State.unlatch (s : State) (c : Chan) : State :=
  let t := s.setCtl c { s.ctl c with retryCount := 0 }
  if (s.ctl c).discharge.isSome then t.setCtl c { t.ctl c with state := .stopping } else t.enterOff c

theorem clearLatched_eq (s : State) (c : Chan) :
    s.clearLatched c = State.settle s (s.unlatch c).recompute := rfl

/-- What changes the demand inputs and brings a recomputation. -/
inductive Rough (s : State) : State → Prop where
  | inputs {t : State} : Beside s t → Rough s t
  | unlatched (c : Chan) : (s.ctl c).state = .latched → Rough s (s.unlatch c)
  | held (c : Chan) : (s.cfg c).admin = .enabled → Rough s ((s.setAdmin c .held).controllerHold c)
  | unheld (c : Chan) : (s.cfg c).admin = .held → Rough s ((s.setAdmin c .enabled).controllerUnhold c)
  | restored (c : Chan) : (s.cfg c).admin = .retired →
      Rough s ((s.setAdmin c .enabled).controllerRestore c)
  | retired (c : Chan) {t : State} : (s.ctl c).state.configurable = true → s.children c = [] →
      (s.cfg c).admin ≠ .retired → Beside ((s.setAdmin c .retired).controllerRetire c) t → Rough s t
  | policySet (ops : List Byte) (c : Chan) (f : ChannelConfig) {t : State} :
      policyOperands s ops = some (c, f) → (s.ctl c).state.configurable = true →
      s.parentAllowed c f.parent = true → Beside (s.setCfg c f) t → Rough s t

/-- One whole step. -/
inductive Whole (s : State) : State → Prop where
  | apart {t : State} : Apart s t → Whole s t
  | stands (c : Chan) (k : Controller) : (s.ctl c).StandsAs k → Whole s (s.setCtl c k)
  | on (c : Chan) : (s.ctl c).state = .softstart → Whole s (s.enterOn c)
  | started (c : Chan) : (s.ctl c).state = .switchover → Whole s (s.startSoft c)
  | waited (c : Chan) : (s.ctl c).state = .stopping ∨ (s.ctl c).state = .retryWait → Whole s (s.endWait c)
  | faulted (cause : FaultCause) (c : Chan) : (s.ctl c).state.closed = true → Whole s (s.fault cause c)
  | admitted (r : Rail) (e : QueueEntry) (v : List Charge) : s.candidate r = some e →
      s.victims r e.priority (s.cfg e.chan).classAU = some v → Whole s ((s.shed v).grantEntry e.chan r)
  | railMoved (r : Rail) (m : RailMonitor) :
      ((s.rail r).state = .up ∨ (s.rail r).state = .falling → m.state = .up ∨ m.state = .falling) →
      Whole s (s.setRail r m)
  | railLost (r : Rail) : (s.rail r).state = .falling → Whole s (s.loseRail r)
  | recomputed {t : State} : Rough s t → Whole s t.recompute
  | powerSet (ops : List Byte) (c : Chan) (f : ChannelConfig) : powerOperands s ops = some (c, f) →
      (s.ctl c).state.configurable = true → Whole s (s.setCfg c f)
  | faultSet (ops : List Byte) (c : Chan) (f : ChannelConfig) : faultOperands s ops = some (c, f) →
      (s.ctl c).state.configurable = true → Whole s ((s.setCfg c f).applyRetryLimit c)
  | viewSet (g : HostId) (l : Chan) (e : ViewEntry) : Whole s (s.setViewEntry g l e)
  | railSet (r : Rail) (x : RailConfig) : (s.account r).allocated ≤ x.limit →
      Whole s (({ s with config := { s.config with rails := s.config.rails.setOf r x } } : State).setAccount r
        { s.account r with limit := x.limit })

/-- Whole steps, one after another. -/
def Wholes : State → State → Prop := Relation.ReflTransGen Whole

theorem Wholes.refl (s : State) : Wholes s s := Relation.ReflTransGen.refl

theorem Wholes.trans {s t u : State} (h : Wholes s t) (k : Wholes t u) : Wholes s u :=
  Relation.ReflTransGen.trans h k

theorem Wholes.then {s t u : State} (h : Wholes s t) (k : Whole t u) : Wholes s u :=
  Relation.ReflTransGen.tail h k

theorem Whole.wholes {s t : State} (h : Whole s t) : Wholes s t := Relation.ReflTransGen.single h

theorem Wholes.keeps {P : State → Prop} (hP : ∀ {s t}, Whole s t → P s → P t) {s t : State}
    (h : Wholes s t) (hs : P s) : P t := by
  induction h with
  | refl => exact hs
  | tail _ hb ih => exact hP hb ih

/-! ### What stands beside the controllers and the arbiters -/

theorem Beside.refl (s : State) : Beside s s := ⟨.refl s, fun _ => rfl, fun _ h => h⟩

theorem Beside.trans {s t u : State} (h : Beside s t) (k : Beside t u) : Beside s u :=
  ⟨h.core.trans k.core, fun r => (k.railStates r).trans (h.railStates r),
    fun g hg => k.bounded g (h.bounded g hg)⟩

theorem Apart.refl (s : State) : Apart s s := ⟨.refl s, fun _ => rfl, fun _ _ => rfl⟩

theorem Apart.trans {s t u : State} (h : Apart s t) (k : Apart t u) : Apart s u :=
  ⟨h.toBeside.trans k.toBeside, fun i => (k.lines i).trans (h.lines i),
    fun c g => (k.claims c g).trans (h.claims c g)⟩

theorem appendNotice_bounded {q : List Notice} (h : q.length ≤ 32) (n : Notice) :
    (appendNotice q n).length ≤ 32 := by
  unfold appendNotice noticeCapacity
  split
  · rw [List.length_append, List.length_singleton]; omega
  · rwa [markNewest_length]

theorem apart_deliver (s : State) (hosts : HostId → Bool) (record : HostId → Notice) :
    Apart s (s.deliver hosts record) := by
  refine ⟨⟨sameCore_deliver s hosts record, fun _ => rfl, fun g hg => ?_⟩, fun _ => rfl, fun _ _ => rfl⟩
  rw [State.deliver_noticesOf]
  split
  · exact appendNotice_bounded hg _
  · exact hg

theorem apart_reportChannel (s : State) (c : Chan) (x : Report) : Apart s (s.reportChannel c x) :=
  apart_deliver s _ _

theorem apart_reportRail (s : State) (x : Report) : Apart s (s.reportRail x) := apart_deliver s _ _

theorem apart_setSen (s : State) (c : Chan) (x : ChannelSense) : Apart s (s.setSen c x) :=
  ⟨⟨sameCore_setSen s c x, fun _ => rfl, fun _ h => h⟩, fun _ => rfl, fun _ _ => rfl⟩

theorem apart_draw (s : State) (n : Nat) : Apart s { s with draws := n } :=
  ⟨⟨sameCore_draw s n, fun _ => rfl, fun _ h => h⟩, fun _ => rfl, fun _ _ => rfl⟩

theorem apart_setPending (s : State) (l : List Instr) : Apart s { s with pending := l } :=
  ⟨⟨⟨rfl, rfl, rfl, rfl, rfl, rfl, rfl⟩, fun _ => rfl, fun _ h => h⟩, fun _ => rfl, fun _ _ => rfl⟩

theorem apart_setPort (s : State) (h : HostId) (p : Port) : Apart s (s.setPort h p) :=
  ⟨⟨⟨rfl, rfl, rfl, rfl, rfl, rfl, rfl⟩, fun _ => rfl, fun _ h => h⟩, fun _ => rfl, fun _ _ => rfl⟩

theorem apart_setLock (s : State) (x : Option HostId) : Apart s { s with lock := x } :=
  ⟨⟨⟨rfl, rfl, rfl, rfl, rfl, rfl, rfl⟩, fun _ => rfl, fun _ h => h⟩, fun _ => rfl, fun _ _ => rfl⟩

theorem apart_setPm (s : State) (x : ProfileMemory) : Apart s { s with pm := x } :=
  ⟨⟨⟨rfl, rfl, rfl, rfl, rfl, rfl, rfl⟩, fun _ => rfl, fun _ h => h⟩, fun _ => rfl, fun _ _ => rfl⟩

theorem apart_setXf (s : State) (x : Vector Bool 4) : Apart s { s with xf := x } :=
  ⟨⟨⟨rfl, rfl, rfl, rfl, rfl, rfl, rfl⟩, fun _ => rfl, fun _ h => h⟩, fun _ => rfl, fun _ _ => rfl⟩

theorem apart_setSense (s : State) (x : Vector ChannelSense 16) : Apart s { s with sense := x } :=
  ⟨⟨⟨rfl, rfl, rfl, rfl, rfl, rfl, rfl⟩, fun _ => rfl, fun _ h => h⟩, fun _ => rfl, fun _ _ => rfl⟩

theorem apart_setNotices (s : State) (h : HostId) {q : List Notice}
    (hq : q.length ≤ (s.noticesOf h).length) : Apart s (s.setNotices h q) := by
  refine ⟨⟨⟨rfl, rfl, rfl, rfl, rfl, rfl, rfl⟩, fun _ => rfl, fun g hg => ?_⟩, fun _ => rfl, fun _ _ => rfl⟩
  rw [State.noticesOf_setNotices_of]
  split
  next e =>
    subst e
    omega
  next => exact hg

theorem apart_freeLock (s : State) (h : HostId) : Apart s (s.freeLock h) := by
  unfold State.freeLock
  split
  · exact apart_setLock s none
  · exact .refl s

theorem apart_endSession (s : State) (h : HostId) (x : Session) : Apart s (s.endSession h x) :=
  ((apart_setPort s h _).trans (apart_freeLock _ h)).trans (apart_setNotices _ h (Nat.zero_le _))

theorem beside_withClaims (s : State) (x : Vector (Vector (Option Claim) 4) 16) :
    Beside s { s with claims := x } :=
  ⟨⟨rfl, rfl, rfl, rfl, rfl, rfl, rfl⟩, fun _ => rfl, fun _ h => h⟩

theorem beside_removeClaims (s : State) (named : Chan → HostId → Bool) : Beside s (s.removeClaims named) := by
  rw [State.removeClaims_frame]
  generalize (s.removeClaims named).claims = x
  exact beside_withClaims s x

theorem beside_setLine (s : State) (k : LineId) (x : EnableLine) : Beside s (s.setLine k x) :=
  ⟨⟨rfl, rfl, rfl, rfl, rfl, rfl, rfl⟩, fun _ => rfl, fun _ h => h⟩

/-- Records rewritten with their priorities kept. -/
theorem apart_withClaims {s : State} {x : Vector (Vector (Option Claim) 4) 16}
    (h : ∀ c g, (({ s with claims := x } : State).claimOf c g).map Claim.priority =
      (s.claimOf c g).map Claim.priority) : Apart s { s with claims := x } :=
  ⟨beside_withClaims s x, fun _ => rfl, h⟩

theorem State.adopt_frame (s : State) (h : HostId) :
    s.adopt h = { s with claims := (s.adopt h).claims } := rfl

theorem State.orphan_frame (s : State) (h : HostId) :
    s.orphan h = { s with claims := (s.orphan h).claims } := rfl

theorem apart_adopt (s : State) (h : HostId) : Apart s (s.adopt h) := by
  have hc := adopt_claimOf s h
  rw [State.adopt_frame] at hc ⊢
  generalize (s.adopt h).claims = x at hc ⊢
  refine apart_withClaims fun c g => ?_
  rw [hc]
  split
  · rw [Option.map_map]; rfl
  · rfl

theorem apart_orphan (s : State) (h : HostId) : Apart s (s.orphan h) := by
  have hc := orphan_claimOf s h
  rw [State.orphan_frame] at hc ⊢
  generalize (s.orphan h).claims = x at hc ⊢
  refine apart_withClaims fun c g => ?_
  rw [hc]
  split
  · rw [Option.map_map]; rfl
  · rfl

/-- The records of a reported drop, before the claims go. -/
def State.dropTold (s : State) (named : Chan → HostId → Bool) (cause : DropCause) : State :=
  allChans.foldl
    (fun t c => allHosts.foldl
      (fun u h =>
        match named c h, s.claimOf c h with
        | true, some x => u.reportDrop c h x.tag cause
        | true, none | false, _ => u) t) s

theorem dropReported_eq (s : State) (named : Chan → HostId → Bool) (cause : DropCause) :
    s.dropReported named cause = ((s.dropTold named cause).removeClaims named).recompute := rfl

theorem foldl_keeps {α : Type} {P : State → Prop} {f : State → α → State} (h : ∀ t x, P t → P (f t x))
    (l : List α) {s : State} (hs : P s) : P (l.foldl f s) :=
  List.foldlRecOn l f (motive := P) hs fun t ht x _ => h t x ht

theorem apart_dropTold (s : State) (named : Chan → HostId → Bool) (cause : DropCause) :
    Apart s (s.dropTold named cause) := by
  refine foldl_keeps (fun t c ht => foldl_keeps (fun u g hu => ?_) _ ht) _ (Apart.refl s)
  split
  · exact hu.trans (apart_deliver u _ _)
  · exact hu
  · exact hu

theorem beside_dropped (s : State) (named : Chan → HostId → Bool) (cause : DropCause) :
    Beside s ((s.dropTold named cause).removeClaims named) :=
  (apart_dropTold s named cause).toBeside.trans (beside_removeClaims _ named)

theorem apart_keepSample (s : State) (x : Sample) : Apart s (s.keepSample x) := by
  have hline (k : LineId) : ((s.keepSample x).line k).qualified = (s.line k).qualified := by
    rw [State.keepSample_line, sampleLine]
    split <;> rfl
  have hrail (r : Rail) : ((s.keepSample x).rail r).state = (s.rail r).state := by cases r <;> rfl
  rw [State.keepSample_frame] at hline hrail ⊢
  generalize (s.keepSample x).sense = a, (s.keepSample x).enables = b, (s.keepSample x).rails = c at *
  exact ⟨⟨⟨rfl, rfl, rfl, rfl, rfl, rfl, rfl⟩, hrail, fun _ h => h⟩, hline, fun _ _ => rfl⟩

theorem apart_ignoreBlanked (s : State) : Apart s s.ignoreBlanked := by
  rw [State.ignoreBlanked_frame]
  generalize s.ignoreBlanked.sense = a
  exact apart_setSense s a

/-! ### Examinations -/

theorem wholes_settle (before after : State) : Wholes after (State.settle before after) :=
  settle_keeps (P := Wholes after) (fun n h => h.then (.apart (apart_draw _ n)))
    (fun he hv h => h.then (.admitted _ _ _ he hv)) (fun cause _ hc h => h.then (.faulted cause _ hc))
    (.refl after)

theorem Wholes.settled {s t : State} (before : State) (h : Wholes s t) :
    Wholes s (State.settle before t) := h.trans (wholes_settle before t)

/-! ### The part's own events -/

theorem wholes_railGood (s : State) (r : Rail) : Wholes s (s.railGood r) := by
  unfold State.railGood
  dsimp only
  split
  next h => exact (Whole.railMoved r _ (by simp [h])).wholes
  next => exact (Whole.railMoved r _ (by simp)).wholes
  all_goals exact .refl s

theorem wholes_railLost (s : State) (r : Rail) : Wholes s (s.railLost r) := by
  unfold State.railLost
  dsimp only
  split
  next h => exact (Whole.railMoved r _ (by simp [h])).wholes
  next =>
    have hfall : Wholes s (s.setRail r { s.rail r with
        state := .falling, lossTimer := startTimer (s.config.rails.of r).lossQual }) :=
      (Whole.railMoved r _ (by simp)).wholes
    split
    · exact hfall.then (.railLost r (by rw [State.rail_setRail]))
    · exact hfall
  all_goals exact .refl s

theorem closed_of_takesTrip {s : State} {c : Chan} (h : s.takesTrip c = true) :
    (s.ctl c).state.closed = true := by
  unfold State.takesTrip at h
  split at h <;> simp_all [ChannelState.closed]

theorem wholes_takeTrip (s : State) (c : Chan) : Wholes s (s.takeTrip c) := by
  unfold State.takeTrip
  split
  · have hseen : Wholes s (s.setSen c { s.sen c with tripPassed := false }) :=
      (Whole.apart (apart_setSen s c _)).wholes
    dsimp only
    split
    next hx => exact hseen.then (.faulted .overcurrent c (closed_of_takesTrip hx))
    next => exact hseen
  · exact .refl s

theorem wholes_takeDetach (s : State) (c : Chan) : Wholes s (s.takeDetach c) := by
  unfold State.takeDetach
  dsimp only
  split
  · have hseen := apart_setSen s c { s.sen c with detachPassed := false }
    split
    · have htold := hseen.trans (apart_reportChannel _ c (.detached (s.cfg c).detachAction))
      split
      · exact (Whole.apart htold).wholes
      · rw [dropReported_eq]
        exact (Whole.apart htold).wholes.then (.recomputed (.inputs (beside_dropped _ _ _)))
    · exact (Whole.apart hseen).wholes
  · exact .refl s

theorem wholes_takeEnable (s : State) (k : LineId) : Wholes s (s.takeEnable k) := by
  unfold State.takeEnable
  split
  · exact (Whole.recomputed (.inputs (beside_setLine s k _))).wholes
  · exact .refl s

theorem wholes_takeSenseEvent (s : State) (e : SenseEvent) : Wholes s (s.takeSenseEvent e) := by
  cases e with
  | powerGoodArrival c =>
    simp only [State.takeSenseEvent]
    split
    next h =>
      simp only [Bool.and_eq_true, decide_eq_true_eq] at h
      exact (Whole.on c h.1).wholes
    next => exact .refl s
  | powerGoodLoss c =>
    simp only [State.takeSenseEvent]
    split
    next h => exact (Whole.faulted .pgLost c (by rw [h]; rfl)).wholes
    next => exact .refl s
  | xfLevel k high => exact (Whole.apart (apart_setXf s _)).wholes
  | xfAssertion k c =>
    simp only [State.takeSenseEvent]
    split
    next h =>
      simp only [State.takesLine, Bool.and_eq_true] at h
      exact (Whole.faulted .external c h.2).wholes
    next => exact .refl s
  | railGood r => exact wholes_railGood s r
  | railLost r => exact wholes_railLost s r
  | trip c => exact wholes_takeTrip s c
  | detach c => exact wholes_takeDetach s c
  | enable k => exact wholes_takeEnable s k

theorem wholes_takeSample (s : State) (x : Sample) : Wholes s (s.takeSample x) := by
  unfold State.takeSample
  dsimp only
  refine Wholes.then ?_ (.apart (apart_ignoreBlanked _))
  exact inFreeOrder_keeps (P := Wholes s)
    (fun e t ht => (ht.trans (wholes_takeSenseEvent t e)).settled t)
    (fun t ht => ht.then (.apart (apart_draw t _))) _ _ _ (Whole.apart (apart_keepSample s x)).wholes

theorem wholes_stands {s : State} {c : Chan} {k : Controller} (h : (s.ctl c).StandsAs k) :
    Wholes s (s.setCtl c k) := (Whole.stands c k h).wholes

theorem wholes_takeBlanking (s : State) (c : Chan) : Wholes s (s.takeBlanking c) := by
  unfold State.takeBlanking
  exact wholes_stands ⟨rfl, rfl, rfl, rfl, .inl rfl⟩

theorem wholes_takeStable (s : State) (c : Chan) : Wholes s (s.takeStable c) := by
  unfold State.takeStable
  refine wholes_stands ⟨rfl, rfl, rfl, rfl, ?_⟩
  by_cases h : (s.ctl c).state = .isOn
  · exact .inr ⟨if_pos h, .inl h⟩
  · exact .inl (if_neg h)

theorem wholes_takeSoftStart (s : State) (c : Chan) : Wholes s (s.takeSoftStart c) := by
  have ht : Wholes s (s.setCtl c { s.ctl c with softStart := none }) :=
    wholes_stands ⟨rfl, rfl, rfl, rfl, .inl rfl⟩
  unfold State.takeSoftStart
  dsimp only
  split
  next h =>
    refine .settled s (ht.then (.faulted .softstartTimeout c ?_))
    rw [State.ctl_setCtl]
    exact (congrArg ChannelState.closed h).trans rfl
  next => exact ht

/-- A wait ends with its timers stopped. -/
theorem wholes_endWait {s : State} {c : Chan} {k : Controller} (hk : (s.ctl c).StandsAs k)
    (h : (s.ctl c).state = .stopping ∨ (s.ctl c).state = .retryWait) (before : State) :
    Wholes s (State.settle before ((s.setCtl c k).endWait c)) := by
  refine .settled before ((Whole.stands c k hk).wholes.then (.waited c ?_))
  rw [State.ctl_setCtl, hk.state]
  exact h

theorem wholes_takeDischarge (s : State) (c : Chan) : Wholes s (s.takeDischarge c) := by
  have hk : (s.ctl c).StandsAs { s.ctl c with discharge := none } := ⟨rfl, rfl, rfl, rfl, .inl rfl⟩
  unfold State.takeDischarge
  dsimp only
  split
  next h => exact wholes_endWait hk (.inl h) s
  next h =>
    split
    · exact wholes_stands hk
    · exact wholes_endWait hk (.inr h) s
  all_goals exact wholes_stands hk

theorem wholes_takeBackoff (s : State) (c : Chan) : Wholes s (s.takeBackoff c) := by
  have hk : (s.ctl c).StandsAs { s.ctl c with backoff := none } := ⟨rfl, rfl, rfl, rfl, .inl rfl⟩
  unfold State.takeBackoff
  dsimp only
  split
  next h =>
    simp only [Bool.and_eq_true, decide_eq_true_eq] at h
    exact wholes_endWait hk (.inr h.1) s
  next => exact wholes_stands hk

theorem startSoft_closed (s : State) (c : Chan) : ((s.startSoft c).ctl c).state.closed = true := by
  rw [State.startSoft, State.ctl_setCtl]; rfl

theorem wholes_enterSoftstart {s : State} {c : Chan} (h : (s.ctl c).state = .switchover) :
    Wholes s (s.enterSoftstart c) := by
  rw [enterSoftstart_eq]
  split
  · exact (Whole.started c h).wholes.then (.faulted _ c (startSoft_closed s c))
  · exact (Whole.started c h).wholes

theorem wholes_takeDeadTime (s : State) (c : Chan) : Wholes s (s.takeDeadTime c) := by
  have ht : Wholes s (s.setCtl c { s.ctl c with deadTime := none }) :=
    wholes_stands ⟨rfl, rfl, rfl, rfl, .inl rfl⟩
  unfold State.takeDeadTime
  dsimp only
  split
  next h =>
    refine .settled s (ht.trans (wholes_enterSoftstart ?_))
    rw [State.ctl_setCtl]
    exact h
  next => exact ht

theorem wholes_qualifyRail (s : State) (r : Rail) : Wholes s (s.qualifyRail r) := by
  unfold State.qualifyRail
  exact .settled s (.then (Whole.railMoved r _ (by simp)).wholes (.apart (apart_reportRail _ _)))

theorem own_wholes {s t : State} (h : Own s t) : Wholes s t := by
  cases h with
  | sampled x => exact wholes_takeSample s x
  | tripped c => exact (wholes_takeTrip s c).settled s
  | enableChanged k => exact (wholes_takeEnable s k).settled s
  | detached c => exact (wholes_takeDetach s c).settled s
  | blankingOver c => exact wholes_takeBlanking s c
  | softStartOver c => exact wholes_takeSoftStart s c
  | stableOver c => exact wholes_takeStable s c
  | dischargeOver c => exact wholes_takeDischarge s c
  | backoffOver c => exact wholes_takeBackoff s c
  | deadTimeOver c => exact wholes_takeDeadTime s c
  | restoreOver r _ => exact wholes_qualifyRail s r
  | lossOver r hr => exact (Whole.railLost r hr).wholes.settled s

/-! ### Commands and sessions -/

theorem wholes_takeOpen (s : State) (h : HostId) (period : Nat) (mode : OrphanMode) (attention : Bool) :
    Wholes s (s.takeOpen h period mode attention).1 := by
  have hopen : Apart s (s.openPort h period mode attention) := apart_setPort s h _
  unfold State.takeOpen
  dsimp only
  split
  · exact (Whole.apart hopen).wholes
  · split
    · exact (Whole.apart (hopen.trans (apart_freeLock _ h))).wholes
    · exact (Whole.apart hopen).wholes
  · exact (Whole.apart (hopen.trans (apart_adopt _ h))).wholes

theorem wholes_dropSilently (s : State) (named : Chan → HostId → Bool) :
    Wholes s (s.dropSilently named) := (Whole.recomputed (.inputs (beside_removeClaims s named))).wholes

theorem wholes_takeLapse (s : State) (h : HostId) : Wholes s (s.takeLapse h) := by
  have hend : Wholes s (s.endSession h .lapsed) := (Whole.apart (apart_endSession s h _)).wholes
  unfold State.takeLapse
  dsimp only
  split
  · exact hend.then (.apart (apart_orphan _ h))
  · exact .settled s (hend.trans (wholes_dropSilently _ _))

theorem served_wholes {h : HostId} {s u : State} (hu : Served h s u) : Wholes s u := by
  have recomputed {t : State} (ht : Rough s t) : Wholes s (State.settle s t.recompute) :=
    (Whole.recomputed ht).wholes.settled s
  cases hu with
  | nothing => exact .refl s
  | opened period mode attention => exact wholes_takeOpen s h period mode attention
  | closed _ =>
    exact .settled s ((Whole.apart (apart_endSession s h _)).wholes.trans (wholes_dropSilently _ _))
  | locked _ _ _ => exact (Whole.apart (apart_setLock s _)).wholes
  | unlocked => exact (Whole.apart (apart_setLock s _)).wholes
  | orphansDropped g _ => exact (wholes_dropSilently s _).settled s
  | claimed l c priority tag => exact recomputed (.inputs (beside_withClaims s _))
  | released c => exact recomputed (.inputs (beside_withClaims s _))
  | noticeTaken n rest hn => exact (Whole.apart (apart_setNotices s h (by rw [hn]; simp))).wholes
  | latchCleared c hc => exact recomputed (.unlatched c hc)
  | countCleared c hc => exact wholes_stands ⟨rfl, rfl, rfl, rfl, .inr ⟨rfl, .inr hc⟩⟩
  | held c ha => exact recomputed (.held c ha)
  | unheld c ha => exact recomputed (.unheld c ha)
  | retired c hconf hch ha => exact recomputed (.retired c hconf hch ha (beside_dropped _ _ _))
  | restored c ha => exact recomputed (.restored c ha)
  | powerSet ops c f hf hconf => exact (Whole.powerSet ops c f hf hconf).wholes.settled s
  | policySet ops c f hf hconf hp => exact recomputed (.policySet ops c f hf hconf hp (beside_dropped _ _ _))
  | faultSet ops c f hf hconf => exact (Whole.faultSet ops c f hf hconf).wholes
  | viewSet g l e _ _ => exact (Whole.viewSet g l e).wholes
  | railSet r x _ _ _ _ hall => exact (Whole.railSet r x hall).wholes.settled s
  | committed _ _ => exact (Whole.apart (apart_setPm s _)).wholes

/-! ### Every row of the table -/

theorem apart_endCommit (s : State) (job : CommitJob) (verified : Bool) :
    Apart s (s.endCommit job verified) := by
  unfold State.endCommit
  split <;> exact (apart_setPm s _).trans (apart_deliver _ _ _)

/-- The tables of load completion written, demand not yet computed (R200). -/
def State.loadTables (s : State) (choice : Option SlotId) : State :=
  { s with
    pm := { s.pm with
      store := .idle, currentGeneration := s.loadedGeneration choice, currentSlot := choice
      loadedGeneration := s.loadedGeneration choice }
    deviceTime := 0
    config := s.loadedImage choice
    lock := none
    accounts := ⟨{ s.accounts.railA with limit := (s.loadedImage choice).rails.railA.limit },
      { s.accounts.railB with limit := (s.loadedImage choice).rails.railB.limit }⟩
    channels := tabulate fun c => Controller.atLoad (look (s.loadedImage choice).channels c) }

theorem completeLoad_eq (s : State) (choice : Option SlotId) :
    s.completeLoad choice = State.settle s (s.loadTables choice).recompute := rfl

/-- A row of the table is a reset, a load completion, or a chain of whole steps. -/
theorem does_wholes {s t : State} (h : Does s t) : (∃ cause, t = s.afterReset cause) ∨
    (∃ choice, s.pm.store = .loading (.chosen choice) ∧ t = s.completeLoad choice) ∨ Wholes s t := by
  cases h with
  | nothing => exact .inr (.inr (.refl s))
  | portOnly h p _ _ => exact .inr (.inr (Whole.apart (apart_setPort s h p)).wholes)
  | served h p u _ hu _ =>
    exact .inr (.inr (((Whole.apart (apart_setPort s h _)).wholes.trans (served_wholes hu)).then
      (.apart (apart_setPort u h p))))
  | reset cause => exact .inl ⟨cause, rfl⟩
  | loadBegun _ => exact .inr (.inr (Whole.apart (apart_setPm s _)).wholes)
  | loaded choice hs => exact .inr (.inl ⟨choice, hs, rfl⟩)
  | commitEnded job verified _ _ => exact .inr (.inr (Whole.apart (apart_endCommit s job verified)).wholes)
  | lapsed h _ _ _ => exact .inr (.inr (wholes_takeLapse s h))
  | own t _ ht => exact .inr (.inr (own_wholes ht))

/-- A law that whole steps keep, that holds after resets and load completions and that a millisecond keeps, is kept
by every step. -/
theorem step_keeps_of_wholes {P : State → Prop} (hw : ∀ {s t}, Whole s t → P s → P t) (hr : ∀ s cause, P (State.afterReset s cause))
    (hl : ∀ s choice, LoadingLaw s → s.pm.store = .loading (.chosen choice) → P s → P (s.completeLoad choice))
    (ht : ∀ s, P s → P s.passTime) {s t : State} (hload : LoadingLaw s) (hs : P s) (h : step s = .next t) :
    P t := by
  refine step_keeps_of_loading (fun s l hs => hw (.apart (apart_setPending s l)) hs)
    (fun s n hs => hw (.apart (apart_draw s n)) hs) (fun s t hload hs hd => ?_) ht hload hs h
  rcases does_wholes hd with ⟨cause, rfl⟩ | ⟨choice, hstore, rfl⟩ | hx
  · exact hr s cause
  · exact hl s choice hload hstore hs
  · exact hx.keeps hw hs

end Sys2Proof.Machine
end

section
/-! PROOFS. The law of the queue and the accounts, together with a rule over record and controller of each channel:
what the rule must allow for whole steps to keep both. -/

namespace Sys2Proof.Machine

/-! ### Rules over one channel -/

/-- Entry to ON (R60, R62). -/
def Controller.entersOn (k : Controller) : Controller :=
  { k with state := .isOn, sub := .noSub, softStart := none, blanking := none, stable := some 1000 }

/-- What a hold makes of the controller, the record already HELD (R68). -/
def Controller.putHeld (k : Controller) (f : ChannelConfig) : Controller :=
  match k.state with
  | .queued => k.rested f
  | .softstart | .isOn | .switchover => k.stopped f
  | .retryWait => k.abandoned f
  | .retired | .off | .stopping | .latched => k

/-- What an unhold makes of it, the record already ENABLED (R69). -/
def Controller.putUnheld (k : Controller) (f : ChannelConfig) : Controller :=
  { k with state := if k.state = .off ∧ k.wantedBy f = true then .queued else k.state }

/-- What a retirement makes of it (R70). -/
def Controller.putRetired (k : Controller) : Controller :=
  if k.state = .off ∨ k.state = .latched then { k with state := .retired, retryCount := 0 } else k

/-- What a restoration makes of it, the record already ENABLED (R71). -/
def Controller.putRestored (k : Controller) (f : ChannelConfig) : Controller :=
  if k.state = .retired then
    if k.discharge.isSome then { k with state := .stopping } else k.rested f
  else k

/-- What CLEAR_FAULT makes of a LATCHED one (R111). -/
def Controller.unlatched (k : Controller) (f : ChannelConfig) : Controller :=
  if k.discharge.isSome then { k with retryCount := 0, state := .stopping }
  else Controller.rested { k with retryCount := 0 } f

/-- What a new retry limit makes of it, in the states in which it is accepted (R109). -/
def Controller.limited (k : Controller) (f : ChannelConfig) : Controller :=
  { k with retryCount := if k.state = .latched then f.retryLimit + 1 else k.retryCount }

/-- A rule over record and controller of a channel that every transition of the controller keeps; a restoration
may ask `R` of the RETIRED channel besides. -/
structure Rule (K R : ChannelConfig → Controller → Prop) : Prop where
  turned {f k k'} : K f k → Turned f k k' → K f k'
  faulted {f k} (cause : FaultCause) : K f k → k.state.closed = true → K f (k.faulted f cause)
  granted {f k} (r : Option Rail) (n : Nat) : K f k → k.state = .queued →
    K f (Controller.started { k with chargedRail := r, grantNumber := n } f)
  started {f k} : K f k → k.state = .switchover → K f (k.started f)
  switched {f k} (new : Rail) : K f k → k.state.charged = true → K f (k.switched f new)
  entersOn {f k} : K f k → k.state = .softstart → K f k.entersOn
  stands {f k k'} : K f k → k.StandsAs k' → K f k'
  waited {f k} : K f k → k.state = .stopping ∨ k.state = .retryWait → K f (k.waitEnded f)
  unlatched {f k} : K f k → k.state = .latched → K f (k.unlatched f)
  held {f k} : K f k → f.admin = .enabled →
    K { f with admin := .held } (k.putHeld { f with admin := .held })
  unheld {f k} : K f k → f.admin = .held →
    K { f with admin := .enabled } (k.putUnheld { f with admin := .enabled })
  retired {f k} : K f k → k.state.configurable = true → K { f with admin := .retired } k.putRetired
  restored {f k} : K f k → R f k → f.admin = .retired →
    K { f with admin := .enabled } (k.putRestored { f with admin := .enabled })
  rewritten {f f' k} : K f k → f'.admin = f.admin → f'.retryLimit = f.retryLimit → K f' k
  limited {f f' k} : K f k → k.state.configurable = true → f'.admin = f.admin → K f' (k.limited f')
  loaded (f) : K f (Controller.atLoad f)
  reset : K ChannelConfig.default Controller.atReset

/-! ### Queue, accounts and rule together -/

/-- The rails that carry charges (R26). -/
def State.Live (s : State) (r : Rail) : Prop := (s.rail r).state = .up ∨ (s.rail r).state = .falling

/-- Queue, accounts and controllers agree, and every channel keeps the rule. -/
structure Lawful (live : Rail → Prop) (K : ChannelConfig → Controller → Prop) (s : State) : Prop where
  alloc : Allocated live s
  ruled : ∀ c, K (s.cfg c) (s.ctl c)

theorem live_of_isUp {s : State} {r : Rail} (h : s.isUp r = true) : s.Live r := by
  left; simpa [State.isUp] using h

theorem State.Live.of_rails {s t : State} (h : ∀ r, (t.rail r).state = (s.rail r).state) {r : Rail} :
    s.Live r ↔ t.Live r := by unfold State.Live; rw [h]

theorem Moves.railState {s t : State} (h : Moves s t) (r : Rail) : t.rail r = s.rail r := by
  unfold State.rail; rw [h.kept.rails]

section Rules

variable {K R : ChannelConfig → Controller → Prop} {live : Rail → Prop}

/-- One channel's record and controller rewritten within the rule. -/
theorem Lawful.of_one {live' : Rail → Prop} {s t : State} {c : Chan} (h : Lawful live K s)
    (ha : Allocated live' t) (hc : K (t.cfg c) (t.ctl c))
    (hcfg : ∀ j ≠ c, t.cfg j = s.cfg j) (hctl : ∀ j ≠ c, t.ctl j = s.ctl j) : Lawful live' K t := by
  refine ⟨ha, fun j => ?_⟩
  by_cases hj : j = c
  · rw [hj]; exact hc
  · rw [hcfg j hj, hctl j hj]; exact h.ruled j

theorem Lawful.turns {s t : State} {c : Chan} {k : Controller} (h : Lawful live K s) (ht : Turns s t c k)
    (hcharge : k.state.charged = true → (s.ctl c).state.charged = true ∧
      k.chargedRail = (s.ctl c).chargedRail ∧ k.grantNumber = (s.ctl c).grantNumber)
    (hk : K (s.cfg c) k) : Lawful live K t :=
  h.of_one (h.alloc.turns ht hcharge) (by rw [ht.cfg, ht.ctl_self]; exact hk) (fun j _ => ht.cfg j)
    fun _ hj => ht.ctl_ne hj

theorem Lawful.same {s t : State} (e : SameCore s t) (h : Lawful live K s) : Lawful live K t :=
  ⟨h.alloc.same e, fun c => by rw [e.cfg, e.ctl]; exact h.ruled c⟩

theorem reprioritize_frame (s : State) (c : Chan) :
    s.reprioritize c = { s with queue := (s.reprioritize c).queue } := by
  rcases reprioritize_cases s c with ⟨h, -⟩ | ⟨e, -, -, h⟩ <;> rw [h]

theorem reprioritize_ctl (s : State) (c j : Chan) : (s.reprioritize c).ctl j = s.ctl j := by
  rw [reprioritize_frame]; rfl

theorem reprioritize_cfg (s : State) (c j : Chan) : (s.reprioritize c).cfg j = s.cfg j := by
  rw [reprioritize_frame]; rfl

theorem Lawful.reprioritize {s : State} (h : Lawful live K s) (c : Chan) : Lawful live K (s.reprioritize c) :=
  ⟨h.alloc.reprioritize c, fun j => by rw [reprioritize_ctl, reprioritize_cfg]; exact h.ruled j⟩

theorem Lawful.mono {live' : Rail → Prop} {s : State} (h : Lawful live K s) (hl : ∀ r, live r → live' r) :
    Lawful live' K s := ⟨h.alloc.mono hl, h.ruled⟩

/-- A demand value table rewritten. -/
theorem Lawful.valued {s : State} (h : Lawful live K s) : Lawful live K s.valued := by
  refine ⟨h.alloc.valued, fun c => ?_⟩
  have hm := moves_valued s
  rw [hm.cfg]
  have hctl : s.valued.ctl c = s.ctl c := by
    unfold State.valued
    generalize tabulate s.demandNow = x
    rfl
  rw [hctl]
  exact h.ruled c

variable (rule : Rule K R)

include rule

theorem Lawful.bit {s t : State} (hb : Bit s t) (h : Lawful live K s) : Lawful live K t :=
  hb.keeps_of_turns (fun h => h.alloc.core) .same (fun c h => h.reprioritize c)
    (fun {_ _ _ _} ht hk h => h.turns ht hk.charge_kept (rule.turned (h.ruled _) hk)) h

theorem Lawful.bits {s t : State} (hb : Bits s t) (h : Lawful live K s) : Lawful live K t :=
  hb.keeps (fun hb h => h.bit rule hb) h

theorem Lawful.faultOne {s : State} (h : Lawful live K s) (cause : FaultCause) {c : Chan}
    (hc : (s.ctl c).state.closed = true) : Lawful live K (s.faultOne cause c) :=
  h.turns (turns_faultOne cause (ChannelState.charged_of_closed hc)) (uncharged_keeps (faulted_charged _ _ _))
    (rule.faulted cause (h.ruled c) hc)

theorem Lawful.grantEntry {s : State} (h : Lawful live K s) {e : QueueEntry} (he : e ∈ s.queue) {r : Rail}
    (hr : live r) : Lawful live K (s.grantEntry e.chan r) := by
  have ht := granted_grantEntry s e.chan r
  have hcfg (j : Chan) : (s.grantEntry e.chan r).cfg j = s.cfg j := by simp [State.cfg, ht.config]
  refine h.of_one (h.alloc.grantEntry he hr) ?_ (fun j _ => hcfg j) (fun j hj => by rw [ht.ctl, if_neg hj])
  rw [hcfg, ht.ctl, if_pos rfl]
  exact rule.granted _ _ (h.ruled _) (h.alloc.queue.queued he)

theorem Act.lawful {s t : State} (ha : Act s t) (h : Lawful live K s ∧ ∀ r, s.isUp r = true → live r) :
    Lawful live K t ∧ ∀ r, t.isUp r = true → live r := by
  obtain ⟨h, hl⟩ := h
  refine ⟨?_, fun r hr => hl r (by rwa [isUp_of_rails ha.moves.kept.rails] at hr)⟩
  cases ha with
  | bit hb => exact h.bit rule hb
  | valued => exact h.valued
  | faulted cause c hc => exact h.faultOne rule cause hc
  | granted e r he hr => exact h.grantEntry rule he (hl r hr)

theorem Lawful.acts {s t : State} (ha : Acts s t) (h : Lawful live K s)
    (hl : ∀ r, s.isUp r = true → live r) : Lawful live K t :=
  (ha.keeps (P := fun s => Lawful live K s ∧ ∀ r, s.isUp r = true → live r)
    (fun ha h => ha.lawful rule h) ⟨h, hl⟩).1

theorem Lawful.switchOne {s : State} (h : Lawful live K s) {x : Charge} {lost new : Rail}
    (hx : x ∈ (s.account lost).charges) (hnew : live new) : Lawful live K (s.switchOne x lost new) := by
  have ht := moved_switchOne s x lost new
  have hcfg (j : Chan) : (s.switchOne x lost new).cfg j = s.cfg j := by simp [State.cfg, ht.config]
  refine h.of_one (c := x.chan) (h.alloc.switchOne hx hnew) ?_ (fun j _ => hcfg j)
    (fun j hj => by rw [ht.ctl, if_neg hj])
  rw [hcfg, ht.ctl, if_pos rfl]
  exact rule.switched new (h.ruled _) ((h.alloc.core.charged _).2 ⟨lost, x, hx, rfl⟩)

theorem Lawful.takeLoss {s : State} (h : Lawful live K s) (hl : ∀ r, s.isUp r = true → live r) (lost : Rail)
    (x : LossEntry) : Lawful live K (s.takeLoss lost x) := by
  rcases takeLoss_cases s lost x with ⟨-, e⟩ | ⟨hx, -, e⟩ | ⟨r, v, hx, hm, e⟩
  · rwa [e]
  · rw [e]
    exact h.bits rule (bits_stop _ ((h.alloc.core.charged _).2 ⟨lost, _, hx, rfl⟩))
  · rw [e]
    obtain ⟨hne, -, hup, hv⟩ := moveOf_eq_some hm
    have hstays := h.alloc.core.stays_of_move hne hv hx
    exact ((h.bit rule (bit_shed hv)).switchOne rule hstays (hl r hup)).bits rule (bits_enterSwitchover _ _ _ _)

theorem Lawful.foldl_takeLoss (lost : Rail) : ∀ (l : List LossEntry) {s : State},
    Lawful live K s → (∀ r, s.isUp r = true → live r) →
    Lawful live K (l.foldl (fun u x => u.takeLoss lost x) s)
  | [], _, h, _ => h
  | x :: l, s, h, hl => by
    rw [List.foldl_cons]
    refine Lawful.foldl_takeLoss lost l (h.takeLoss rule hl lost x) fun r hr => hl r ?_
    rwa [isUp_of_rails (moves_takeLoss s lost x).kept.rails] at hr

theorem Lawful.loseRail {s : State} (h : Lawful live K s) (hl : ∀ r, s.isUp r = true → live r) (lost : Rail) :
    Lawful (fun r => live r ∧ r ≠ lost) K (s.loseRail lost) := by
  have hdown : Lawful live K (s.railDown lost) :=
    ⟨h.alloc.of_core rfl rfl rfl rfl fun _ => rfl, h.ruled⟩
  have hup (r : Rail) (hr : (s.railDown lost).isUp r = true) : live r := by
    refine hl r ?_
    unfold State.isUp State.railDown at hr
    rw [State.rail_setRail_of] at hr
    split at hr
    · simp at hr
    · exact hr
  have hlost : Lawful live K (s.loseRail lost) := by
    rw [loseRail_eq]
    exact .same (sameCore_deliver _ _ _) (Lawful.foldl_takeLoss rule lost (s.lossList lost) hdown hup)
  refine ⟨⟨hlost.alloc.queue, hlost.alloc.core, fun r hr => ⟨hlost.alloc.rails r hr, fun e => hr ?_⟩⟩, hlost.ruled⟩
  rw [e]
  exact loseRail_charges s lost

end Rules

end Sys2Proof.Machine
end

section
/-! PROOFS. Every whole step keeps the law of the queue and the accounts together with any rule over the channels. -/

namespace Sys2Proof.Machine

section Rules

variable {K R : ChannelConfig → Controller → Prop} {live : Rail → Prop}

/-! ### The administrative transitions as turns -/

theorem setAdmin_ctl (s : State) (c : Chan) (x : Admin) (j : Chan) : (s.setAdmin c x).ctl j = s.ctl j := rfl

theorem setAdmin_cfg_self (s : State) (c : Chan) (x : Admin) :
    (s.setAdmin c x).cfg c = { s.cfg c with admin := x } := State.cfg_setCfg s c _

theorem setAdmin_cfg_ne (s : State) {c j : Chan} (x : Admin) (hj : j ≠ c) :
    (s.setAdmin c x).cfg j = s.cfg j := by
  rw [State.setAdmin, State.cfg_setCfg_of, if_neg hj]

/-- A first turn after a channel's record is rewritten. -/
theorem Lawful.rewritten {s u : State} {c : Chan} {f : ChannelConfig} {k : Controller} (h : Lawful live K s)
    (ht : Turns (s.setCfg c f) u c k)
    (hcharge : k.state.charged = true → (s.ctl c).state.charged = true ∧
      k.chargedRail = (s.ctl c).chargedRail ∧ k.grantNumber = (s.ctl c).grantNumber)
    (hk : K f k) : Lawful live K u := by
  have ha : Allocated live (s.setCfg c f) := h.alloc.of_core rfl rfl rfl rfl fun _ => rfl
  refine h.of_one (c := c) (ha.turns ht hcharge) (by rw [ht.cfg, ht.ctl_self, State.cfg_setCfg]; exact hk)
    (fun j hj => ?_) fun j hj => ht.ctl_ne hj
  rw [ht.cfg, State.cfg_setCfg_of, if_neg hj]

theorem turns_self {s : State} {c : Chan} : Turns s s c (s.ctl c) := by
  have h := turns_setCtl (s := s) (c := c) (k := s.ctl c) Iff.rfl id
  rwa [setCtl_ctl_self] at h

theorem turns_unlatch {s : State} {c : Chan} (h : (s.ctl c).state = .latched) :
    Turns s (s.unlatch c) c ((s.ctl c).unlatched (s.cfg c)) := by
  unfold State.unlatch Controller.unlatched
  dsimp only
  split
  · rw [State.ctl_setCtl, setCtl_setCtl]
    exact turns_setCtl (by simp [h]) (by simp [h, ChannelState.charged])
  · exact turns_enterOff _ (by simp [h]) (by simp [h, ChannelState.charged])

/-- The controller's part of a hold: one turn, then at most a cascade. -/
theorem turns_controllerHold {s : State} {c : Chan} (ha : (s.cfg c).admin = .held) :
    ∃ u, Turns s u c ((s.ctl c).putHeld (s.cfg c)) ∧ Bits u (s.controllerHold c) := by
  have stops (hc : (s.ctl c).state.charged = true) (e : (s.ctl c).putHeld (s.cfg c) = (s.ctl c).stopped (s.cfg c)) :
      ∃ u, Turns s u c ((s.ctl c).putHeld (s.cfg c)) ∧ Bits u (s.stop .held c) :=
    ⟨_, e ▸ turns_stopOne .held hc, bits_stopTree _ _ _ _⟩
  unfold State.controllerHold
  split
  next h =>
    refine ⟨_, ?_, .refl _⟩
    have ht := turns_unqueue_enterOff (k := s.ctl c) h (by simp [Controller.wantedBy, ha])
    rw [setCtl_ctl_self] at ht
    rwa [Controller.putHeld, h]
  next h => exact stops (by rw [h]; rfl) (by rw [Controller.putHeld, h])
  next h => exact stops (by rw [h]; rfl) (by rw [Controller.putHeld, h])
  next h => exact stops (by rw [h]; rfl) (by rw [Controller.putHeld, h])
  next h =>
    refine ⟨_, ?_, .refl _⟩
    have ht := turns_abandonRetry (k := s.ctl c) h
    rw [setCtl_ctl_self] at ht
    rwa [Controller.putHeld, h]
  all_goals
    rename_i h
    refine ⟨s, ?_, .refl s⟩
    rw [Controller.putHeld, h]
    exact turns_self

theorem turns_controllerUnhold (s : State) (c : Chan) :
    Turns s (s.controllerUnhold c) c ((s.ctl c).putUnheld (s.cfg c)) := by
  have same (hx : ¬ ((s.ctl c).state = .off ∧ (s.ctl c).wantedBy (s.cfg c) = true)) :
      Turns s s c ((s.ctl c).putUnheld (s.cfg c)) := by
    rw [Controller.putUnheld, if_neg hx]
    exact turns_self
  unfold State.controllerUnhold
  split
  next h =>
    change Turns s (if (s.ctl c).wantedBy (s.cfg c) = true then _ else _) c _
    by_cases hw : (s.ctl c).wantedBy (s.cfg c) = true
    · rw [if_pos hw, Controller.putUnheld, if_pos ⟨h, hw⟩]
      have ht := turns_enterQueued (s := s) (c := c) (s.ctl c) (by simp [h]) (by simp [h, ChannelState.charged])
      rwa [setCtl_ctl_self] at ht
    · rw [if_neg hw]
      exact same fun hx => hw hx.2
  all_goals
    rename_i h
    exact same fun hx => by simp [h] at hx

theorem turns_controllerRetire (s : State) (c : Chan) :
    Turns s (s.controllerRetire c) c (s.ctl c).putRetired := by
  unfold State.controllerRetire
  split
  next h =>
    rw [Controller.putRetired, if_pos (.inl h)]
    exact turns_setCtl (by simp [h]) (by simp [h, ChannelState.charged])
  next h =>
    rw [Controller.putRetired, if_pos (.inr h)]
    exact turns_setCtl (by simp [h]) (by simp [h, ChannelState.charged])
  all_goals
    rename_i h
    rw [Controller.putRetired, if_neg (by simp [h])]
    exact turns_self

theorem turns_controllerRestore (s : State) (c : Chan) :
    Turns s (s.controllerRestore c) c ((s.ctl c).putRestored (s.cfg c)) := by
  unfold State.controllerRestore
  split
  next h =>
    rw [Controller.putRestored, if_pos h]
    split
    · exact turns_setCtl (by simp [h]) (by simp [h, ChannelState.charged])
    · have ht := turns_enterOff (s := s) (c := c) (s.ctl c) (by simp [h]) (by simp [h, ChannelState.charged])
      rwa [setCtl_ctl_self] at ht
  all_goals
    rename_i h
    rw [Controller.putRestored, if_neg (by simp [h])]
    exact turns_self

/-! ### What the administrative transitions charge: nobody -/

theorem putHeld_charged (k : Controller) (f : ChannelConfig) : (k.putHeld f).state.charged = false := by
  unfold Controller.putHeld
  split
  · exact rested_charged _ _
  · exact stopped_charged _ _
  · exact stopped_charged _ _
  · exact stopped_charged _ _
  · exact abandoned_charged _ _
  all_goals simp_all [ChannelState.charged]

theorem putUnheld_kept {k : Controller} {f : ChannelConfig} (h : (k.putUnheld f).state.charged = true) :
    k.state.charged = true ∧ (k.putUnheld f).chargedRail = k.chargedRail ∧
      (k.putUnheld f).grantNumber = k.grantNumber := by
  unfold Controller.putUnheld at *
  dsimp only at *
  split at h
  · cases h
  · exact ⟨h, rfl, rfl⟩

theorem putRetired_kept {k : Controller} (h : k.putRetired.state.charged = true) :
    k.state.charged = true ∧ k.putRetired.chargedRail = k.chargedRail ∧
      k.putRetired.grantNumber = k.grantNumber := by
  unfold Controller.putRetired at *
  split at h
  · cases h
  next hx =>
    rw [if_neg hx]
    exact ⟨h, rfl, rfl⟩

theorem putRestored_kept {k : Controller} {f : ChannelConfig} (h : (k.putRestored f).state.charged = true) :
    k.state.charged = true ∧ (k.putRestored f).chargedRail = k.chargedRail ∧
      (k.putRestored f).grantNumber = k.grantNumber := by
  unfold Controller.putRestored at *
  split at h
  · split at h
    · cases h
    · rw [rested_charged] at h; cases h
  next hx =>
    rw [if_neg hx]
    exact ⟨h, rfl, rfl⟩

theorem unlatched_charged (k : Controller) (f : ChannelConfig) : (k.unlatched f).state.charged = false := by
  unfold Controller.unlatched
  split
  · rfl
  · exact rested_charged _ _

/-! ### The operands of the SET_CHANNEL family -/

theorem powerOperands_kept {s : State} {ops : List Byte} {c : Chan} {f : ChannelConfig}
    (h : powerOperands s ops = some (c, f)) : f.admin = (s.cfg c).admin ∧ f.retryLimit = (s.cfg c).retryLimit := by
  unfold powerOperands at h
  split at h
  · simp only [Option.bind_eq_bind, Option.bind_eq_some_iff, Option.some.injEq, Prod.mk.injEq] at h
    obtain ⟨_, -, _, -, _, -, _, -, _, -, _, -, _, -, _, -, rfl, rfl⟩ := h
    exact ⟨rfl, rfl⟩
  · cases h

theorem policyOperands_kept {s : State} {ops : List Byte} {c : Chan} {f : ChannelConfig}
    (h : policyOperands s ops = some (c, f)) : f.admin = (s.cfg c).admin ∧ f.retryLimit = (s.cfg c).retryLimit := by
  unfold policyOperands at h
  split at h
  · simp only [Option.bind_eq_bind, Option.bind_eq_some_iff, Option.some.injEq, Prod.mk.injEq] at h
    obtain ⟨_, -, _, -, _, -, _, -, _, -, _, -, rfl, rfl⟩ := h
    exact ⟨rfl, rfl⟩
  · cases h

theorem faultOperands_admin {s : State} {ops : List Byte} {c : Chan} {f : ChannelConfig}
    (h : faultOperands s ops = some (c, f)) : f.admin = (s.cfg c).admin := by
  unfold faultOperands at h
  split at h
  · simp only [Option.bind_eq_bind, Option.bind_eq_some_iff, Option.some.injEq, Prod.mk.injEq] at h
    obtain ⟨_, -, _, -, _, -, _, -, _, -, _, -, rfl, rfl⟩ := h
    rfl
  · cases h

/-! ### Whole steps -/

/-- A record rewritten, its admin state and retry limit kept. -/
theorem Lawful.setCfg (rule : Rule K R) {s : State} (h : Lawful live K s) (c : Chan) {f : ChannelConfig}
    (hf : f.admin = (s.cfg c).admin ∧ f.retryLimit = (s.cfg c).retryLimit) : Lawful live K (s.setCfg c f) := by
  refine h.of_one (c := c) (h.alloc.of_core rfl rfl rfl rfl fun _ => rfl) ?_ (fun j hj => ?_) fun _ _ => rfl
  · rw [State.cfg_setCfg]
    exact rule.rewritten (h.ruled c) hf.1 hf.2
  · rw [State.cfg_setCfg_of, if_neg hj]

theorem moves_unlatch (s : State) (c : Chan) : Moves s (s.unlatch c) := by
  unfold State.unlatch
  dsimp only
  split
  · exact (moves_setCtl s c _).trans (moves_setCtl _ c _)
  · exact (moves_setCtl s c _).trans (moves_enterOff _ c)

theorem Rough.railState {s t : State} (h : Rough s t) (r : Rail) : (t.rail r).state = (s.rail r).state := by
  cases h with
  | inputs hb => exact hb.railStates r
  | unlatched c hc => rw [(moves_unlatch s c).railState]
  | held c ha => rw [(moves_controllerHold _ c).railState]; rfl
  | unheld c ha => rw [(moves_controllerUnhold _ c).railState]; rfl
  | restored c ha => rw [(moves_controllerRestore _ c).railState]; rfl
  | retired c hconf hch ha hb => rw [hb.railStates, (moves_controllerRetire _ c).railState]; rfl
  | policySet ops c f hf hconf hp hb => rw [hb.railStates]; rfl

variable (rule : Rule K R)

include rule

theorem Rough.lawful {s t : State} (hx : Rough s t) (hret : ∀ c, R (s.cfg c) (s.ctl c))
    (h : Lawful live K s) : Lawful live K t := by
  cases hx with
  | inputs hb => exact h.same hb.core
  | unlatched c hc =>
    exact h.turns (turns_unlatch hc) (uncharged_keeps (unlatched_charged _ _)) (rule.unlatched (h.ruled c) hc)
  | held c ha =>
    have hf : (s.setAdmin c .held).cfg c = { s.cfg c with admin := .held } := setAdmin_cfg_self s c .held
    obtain ⟨u, hu, hbits⟩ := turns_controllerHold (s := s.setAdmin c .held) (c := c) (by rw [hf])
    refine .bits rule hbits (h.rewritten hu (uncharged_keeps (putHeld_charged _ _)) ?_)
    rw [hf]
    exact rule.held (h.ruled c) ha
  | unheld c ha =>
    refine h.rewritten (turns_controllerUnhold (s.setAdmin c .enabled) c) putUnheld_kept ?_
    rw [setAdmin_cfg_self]
    exact rule.unheld (h.ruled c) ha
  | restored c ha =>
    refine h.rewritten (turns_controllerRestore (s.setAdmin c .enabled) c) putRestored_kept ?_
    rw [setAdmin_cfg_self]
    exact rule.restored (h.ruled c) (hret c) ha
  | retired c hconf hch ha hb =>
    refine .same hb.core (h.rewritten (turns_controllerRetire (s.setAdmin c .retired) c) putRetired_kept ?_)
    exact rule.retired (h.ruled c) hconf
  | policySet ops c f hf hconf hp hb => exact .same hb.core (h.setCfg rule c (policyOperands_kept hf))

/-- Queue, accounts and rule on the rails that are UP or FALLING. -/
theorem Whole.lawful {s t : State} (hx : Whole s t) (hret : ∀ c, R (s.cfg c) (s.ctl c))
    (h : Lawful s.Live K s) : Lawful t.Live K t := by
  have sameRails {u : State} (hu : Lawful s.Live K u) (hr : ∀ r, (u.rail r).state = (s.rail r).state) :
      Lawful u.Live K u := hu.mono fun r hl => (State.Live.of_rails hr).1 hl
  have acted {u : State} (ha : Acts s u) (hm : Moves s u) : Lawful u.Live K u :=
    sameRails (h.acts rule ha fun r => live_of_isUp) fun r => by rw [hm.railState]
  cases hx with
  | apart ha => exact sameRails (h.same ha.core) ha.railStates
  | stands c k hk =>
    refine sameRails (h.turns (turns_setCtl (by rw [hk.state]) (by rw [hk.state]; exact id)) (fun hc => ?_)
      (rule.stands (h.ruled c) hk)) fun _ => rfl
    exact ⟨by rw [← hk.state]; exact hc, hk.chargedRail, hk.grantNumber⟩
  | on c hc =>
    have ht : Turns s (s.enterOn c) c (s.ctl c).entersOn := by
      refine .then_same (.then_same (turns_setCtl (by simp [hc, Controller.entersOn])
        (by simp [hc, Controller.entersOn, ChannelState.charged])) (sameCore_setSen _ c _)) (sameCore_reportChannel _ c _)
    exact sameRails (h.turns ht (fun _ => ⟨by rw [hc]; rfl, rfl, rfl⟩) (rule.entersOn (h.ruled c) hc)) fun _ => rfl
  | started c hc =>
    refine sameRails (h.turns (turns_setCtl (by simp [hc, Controller.started])
      (by simp [hc, Controller.started, ChannelState.charged])) (fun _ => ⟨by rw [hc]; rfl, rfl, rfl⟩)
      (rule.started (h.ruled c) hc)) fun _ => rfl
  | waited c hc =>
    have hq : (s.ctl c).state ≠ .queued := by rcases hc with e | e <;> simp [e]
    have hu : (s.ctl c).state.charged = false := by rcases hc with e | e <;> simp [e, ChannelState.charged]
    have ht := turns_endWait (s := s) (c := c) (s.ctl c) hq hu
    rw [setCtl_ctl_self] at ht
    refine sameRails (h.turns ht (uncharged_keeps (waitEnded_charged _ _)) (rule.waited (h.ruled c) hc)) fun r => ?_
    rw [(moves_endWait s c).railState]
  | faulted cause c hc => exact acted (acts_fault cause hc) (moves_fault s cause c)
  | admitted r e v he hv =>
    exact acted (acts_admitted he hv) ((moves_shed s v).trans (moves_grantEntry _ _ r))
  | railMoved r m hm =>
    have hcore : Lawful s.Live K (s.setRail r m) := ⟨h.alloc.of_core rfl rfl rfl rfl fun _ => rfl, h.ruled⟩
    refine hcore.mono fun q hq => ?_
    unfold State.Live
    rw [State.rail_setRail_of]
    split
    next e => subst e; exact hm hq
    next => exact hq
  | railLost r hr =>
    refine (h.loseRail rule (fun q => live_of_isUp) r).mono fun q hq => ?_
    unfold State.Live
    rw [(moves_loseRail s r).railState, State.rail_setRail_of, if_neg hq.2]
    exact hq.1
  | recomputed hx =>
    rename_i u
    have hu : Lawful s.Live K u := hx.lawful rule hret h
    have hrails := hx.railState
    refine (hu.acts rule (acts_recompute u) fun r hr => ?_).mono fun r hl => ?_
    · exact (State.Live.of_rails hrails).2 (live_of_isUp hr)
    · refine (State.Live.of_rails fun q => ?_).1 hl
      rw [(moves_recompute u).railState, hrails]
  | powerSet ops c f hf hconf => exact sameRails (h.setCfg rule c (powerOperands_kept hf)) fun _ => rfl
  | faultSet ops c f hf hconf =>
    rw [applyRetryLimit_setCfg]
    refine sameRails (h.rewritten (c := c) (f := f) (k := (s.ctl c).limited f)
      (turns_setCtl Iff.rfl id) (fun hc => ⟨hc, rfl, rfl⟩) ?_) fun _ => rfl
    exact rule.limited (h.ruled c) hconf (faultOperands_admin hf)
  | viewSet g l e => exact sameRails ⟨h.alloc.of_core rfl rfl rfl rfl fun _ => rfl, h.ruled⟩ fun _ => rfl
  | railSet r x hall =>
    refine sameRails ⟨h.alloc.of_core rfl rfl rfl rfl fun q => ?_, h.ruled⟩ fun _ => rfl
    rw [State.account_setAccount_of]
    split
    next e => subst e; rfl
    next => rfl

end Rules

end Sys2Proof.Machine
end

section
/-! PROOFS. Steps that are not chains of whole steps: reset, load completion and the passing of a millisecond. The
law of the queue and the accounts and the law of retry counts are settled here. -/

namespace Sys2Proof.Machine

/-! ### Reset -/

theorem afterReset_ctl (s : State) (cause : ResetCause) (c : Chan) :
    (s.afterReset cause).ctl c = Controller.atReset := reset_ctl c

theorem afterReset_cfg (s : State) (cause : ResetCause) (c : Chan) :
    (s.afterReset cause).cfg c = ChannelConfig.default := reset_cfg c

theorem reset_allocated (live : Rail → Prop) : Allocated live State.reset := by
  refine ⟨reset_queueLaw, ((chargeLaw_iff State.reset).1 reset_chargeLaw).1, fun r hr => absurd ?_ hr⟩
  rw [reset_account]

/-! ### The state that a load completion finds and the one it computes demand from -/

theorem Controller.atLoad_state (f : ChannelConfig) :
    (Controller.atLoad f).state = .retired ∨ (Controller.atLoad f).state = .off ∨
      (Controller.atLoad f).state = .stopping := by
  unfold Controller.atLoad
  dsimp only
  split
  · exact .inl rfl
  · split
    · exact .inr (.inl rfl)
    · exact .inr (.inr rfl)

theorem Controller.atLoad_uncharged (f : ChannelConfig) : (Controller.atLoad f).state.charged = false := by
  rcases Controller.atLoad_state f with h | h | h <;> rw [h] <;> rfl

theorem Controller.atLoad_ne_queued (f : ChannelConfig) : (Controller.atLoad f).state ≠ .queued := by
  rcases Controller.atLoad_state f with h | h | h <;> simp [h]

/-- While Profile Memory loads nothing waits, nothing is charged and both rails are DOWN. -/
structure LoadingCore (s : State) : Prop where
  queue : s.queue = []
  admission : s.admissionCounter = 0
  grants : s.grantCounter = 0
  charges : ∀ r, s.account r = ⟨0, []⟩
  rails : ∀ r, s.rail r = ⟨false, .down, none, none⟩
  demand : ∀ c, s.dem c = Demand.absent
  notices : ∀ g, s.noticesOf g = []
  claims : ∀ c g, s.claimOf c g = none

theorem LoadingLaw.core {s : State} (h : LoadingLaw s) (hl : s.isLoading = true) : LoadingCore s := by
  obtain ⟨e, -⟩ := h hl
  rw [e]
  exact ⟨rfl, rfl, rfl, reset_account, fun r => by cases r <;> rfl, reset_dem,
    fun g => by rw [State.noticesOf]; exact look_replicate _ g, reset_claimOf⟩

@[simp] theorem loadTables_ctl (s : State) (choice : Option SlotId) (c : Chan) :
    (s.loadTables choice).ctl c = Controller.atLoad ((s.loadTables choice).cfg c) := by
  unfold State.loadTables State.ctl State.cfg
  dsimp only
  rw [look_tabulate]

theorem loadTables_charges (s : State) (choice : Option SlotId) (r : Rail) :
    ((s.loadTables choice).account r).charges = (s.account r).charges := by cases r <;> rfl

theorem allocated_loadTables {s : State} (h : LoadingCore s) (choice : Option SlotId) (live : Rail → Prop) :
    Allocated live (s.loadTables choice) := by
  have hnone (r : Rail) : ((s.loadTables choice).account r).charges = [] := by
    rw [loadTables_charges, h.charges]
  have hq : (s.loadTables choice).queue = [] := h.queue
  refine ⟨(queueLaw_iff _).2 ⟨fun c => ?_, ?_⟩, ⟨fun c => ?_, fun r x hx => ?_, fun r => ?_, ?_, ?_⟩,
    fun r hr => absurd (hnone r) hr⟩
  · rw [loadTables_ctl, hq]
    simp [Controller.atLoad_ne_queued]
  · rw [hq]
    exact ⟨List.nodup_nil, List.nodup_nil, .nil, fun e he => by cases he⟩
  · rw [loadTables_ctl, Controller.atLoad_uncharged]
    simp [hnone]
  · rw [hnone] at hx; cases hx
  · rw [hnone]; exact .nil
  · have ha := hnone .a
    have hb := hnone .b
    unfold State.allCharges
    change (List.map _ (((s.loadTables choice).account .a).charges ++
      ((s.loadTables choice).account .b).charges)).Nodup
    rw [ha, hb]
    exact List.nodup_nil
  · have ha := hnone .a
    have hb := hnone .b
    unfold State.allCharges
    change (List.map _ (((s.loadTables choice).account .a).charges ++
      ((s.loadTables choice).account .b).charges)).Nodup
    rw [ha, hb]
    exact List.nodup_nil

theorem acts_completeLoad (s : State) (choice : Option SlotId) :
    Acts (s.loadTables choice) (s.completeLoad choice) := by
  rw [completeLoad_eq]
  exact (acts_recompute _).trans (acts_settle _ _)

theorem moves_completeLoad (s : State) (choice : Option SlotId) :
    Moves (s.loadTables choice) (s.completeLoad choice) := by
  rw [completeLoad_eq]
  exact (moves_recompute _).trans (moves_settle _ _)

/-! ### A millisecond -/

theorem Controller.standsAs_tick (k : Controller) : k.StandsAs k.tick := ⟨rfl, rfl, rfl, rfl, .inl rfl⟩

theorem passTime_ctl (s : State) (c : Chan) : (s.ctl c).StandsAs (s.passTime.ctl c) := by
  unfold State.passTime
  split
  · exact ⟨rfl, rfl, rfl, rfl, .inl rfl⟩
  · simp only [State.ctl, look_tabulate]
    exact Controller.standsAs_tick _

theorem passTime_railState (s : State) (r : Rail) : (s.passTime.rail r).state = (s.rail r).state := by
  unfold State.passTime
  split
  · rfl
  · cases r <;> rfl

/-- What else a millisecond leaves. -/
structure Quiet (s t : State) : Prop where
  queue : t.queue = s.queue
  admission : t.admissionCounter = s.admissionCounter
  grants : t.grantCounter = s.grantCounter
  accounts : t.accounts = s.accounts
  demand : t.demand = s.demand
  config : t.config = s.config
  claims : t.claims = s.claims
  enables : t.enables = s.enables
  notices : t.notices = s.notices

theorem passTime_quiet (s : State) : Quiet s s.passTime := by
  rw [passTime_frame]
  exact ⟨rfl, rfl, rfl, rfl, rfl, rfl, rfl, rfl, rfl⟩

theorem Quiet.account {s t : State} (h : Quiet s t) (r : Rail) : t.account r = s.account r := by
  simp [State.account, h.accounts]

theorem Quiet.cfg {s t : State} (h : Quiet s t) (c : Chan) : t.cfg c = s.cfg c := by
  simp [State.cfg, h.config]

theorem Quiet.dem {s t : State} (h : Quiet s t) (c : Chan) : t.dem c = s.dem c := by
  simp [State.dem, h.demand]

theorem allocated_passTime {live : Rail → Prop} {s : State} (h : Allocated live s) : Allocated live s.passTime := by
  have hq := passTime_quiet s
  have hctl := passTime_ctl s
  refine ⟨?_, h.core.of_same (fun r => by rw [hq.account]) (fun c => by rw [(hctl c).state])
    (fun c _ => ⟨(hctl c).chargedRail, (hctl c).grantNumber⟩) hq.grants,
    fun r hr => h.rails r (by rwa [hq.account] at hr)⟩
  have hlaw := h.queue
  unfold QueueLaw at *
  simp only [fun c => (hctl c).state, hq.queue, hq.admission]
  exact hlaw

/-! ### Every step -/

/-- A rule that every transition keeps, and the law of the queue and the accounts with it, is kept by every step. -/
theorem lawful_step {K : ChannelConfig → Controller → Prop} (rule : Rule K fun _ _ => True) {s t : State}
    (hload : LoadingLaw s) (h : Lawful s.Live K s) (hstep : step s = .next t) : Lawful t.Live K t := by
  refine step_keeps_of_wholes (P := fun s => Lawful s.Live K s)
    (fun hx h => hx.lawful rule (fun _ => trivial) h) (fun s cause => ?reset) (fun s choice hload hstore _ => ?load)
    (fun s h => ?time) hload h hstep
  case reset =>
    refine ⟨(reset_allocated _).of_core rfl rfl rfl rfl fun _ => rfl, fun c => ?_⟩
    rw [afterReset_ctl, afterReset_cfg]
    exact rule.reset
  case load =>
    have hcore := hload.core (isLoading_of_loading hstore)
    have hstart : Lawful (s.completeLoad choice).Live K (s.loadTables choice) :=
      ⟨allocated_loadTables hcore choice _, fun c => by rw [loadTables_ctl]; exact rule.loaded _⟩
    refine hstart.acts rule (acts_completeLoad s choice) fun r hr => ?_
    refine (State.Live.of_rails fun q => ?_).1 (live_of_isUp hr)
    rw [(moves_completeLoad s choice).railState]
  case time =>
    have hall : Lawful s.Live K s.passTime :=
      ⟨allocated_passTime h.alloc, fun c => by
        rw [(passTime_quiet s).cfg]; exact rule.stands (h.ruled c) (passTime_ctl s c)⟩
    exact hall.mono fun r hl => (State.Live.of_rails (passTime_railState s)).1 hl

/-- No rule at all. -/
theorem rule_true : Rule (fun _ _ => True) fun _ _ => True := by
  constructor <;> intros <;> trivial

/-- Settles O55: each small step turns one controller together with its entry and its charge, grants and moves place
one, and only rails that are UP or FALLING carry any. -/
theorem allocationLawIsKept : Obligations.AllocationLawIsKept := by
  intro s t hload hs hstep
  rw [allocationLaw_iff] at *
  exact (lawful_step rule_true hload ⟨hs, fun _ => trivial⟩ hstep).alloc

/-! ### Retry counts -/

/-- The retry count that R101, R54, R70 and R109 give, by state. -/
def RetryRule (f : ChannelConfig) (k : Controller) : Prop :=
  match k.state with
  | .latched => k.retryCount = f.retryLimit + 1
  | .off | .retired => k.retryCount = 0
  | .queued | .softstart | .isOn | .switchover | .stopping | .retryWait => k.retryCount ≤ f.retryLimit

theorem retryLaw_iff (s : State) : RetryLaw s ↔ ∀ c, RetryRule (s.cfg c) (s.ctl c) := Iff.rfl

/-- A count of 0 suits every state but LATCHED. -/
theorem RetryRule.of_zero {f : ChannelConfig} {k : Controller} (h : k.retryCount = 0) (hs : k.state ≠ .latched) :
    RetryRule f k := by
  unfold RetryRule
  rw [h]
  split <;> simp_all

/-- A count within the limit suits the states of a wanted channel. -/
theorem RetryRule.of_le {f : ChannelConfig} {k : Controller} (h : k.retryCount ≤ f.retryLimit)
    (hs : k.state ≠ .latched) (ho : k.state ≠ .off) (hr : k.state ≠ .retired) : RetryRule f k := by
  unfold RetryRule
  split <;> simp_all

theorem RetryRule.le {f : ChannelConfig} {k : Controller} (h : RetryRule f k) (hs : k.state ≠ .latched) :
    k.retryCount ≤ f.retryLimit := by
  unfold RetryRule at h
  split at h <;> simp_all

theorem retryRule_rested {f : ChannelConfig} (k : Controller) : RetryRule f (k.rested f) := by
  refine .of_zero rfl ?_
  unfold Controller.rested
  dsimp only
  split <;> simp

theorem retryRule_waitEnded {f : ChannelConfig} {k : Controller} (h : k.retryCount ≤ f.retryLimit) :
    RetryRule f (k.waitEnded f) := by
  unfold Controller.waitEnded
  split
  · exact h
  · exact retryRule_rested k

theorem retryRule_stopped {f : ChannelConfig} {k : Controller} (h : k.retryCount ≤ f.retryLimit) :
    RetryRule f (k.stopped f) := by
  unfold Controller.stopped
  split
  · exact retryRule_waitEnded (k := k.halted f) h
  · exact h

theorem retryRule_abandoned {f : ChannelConfig} {k : Controller} (h : k.retryCount ≤ f.retryLimit) :
    RetryRule f (k.abandoned f) := by
  unfold Controller.abandoned
  split
  · exact h
  · exact retryRule_rested _

theorem RetryRule.lost {f : ChannelConfig} {k : Controller} (h : RetryRule f k) : RetryRule f (k.lost f) := by
  by_cases hc : k.state.charged = true
  · rw [lost_of_charged f hc]
    exact retryRule_stopped (h.le fun e => by rw [e] at hc; cases hc)
  by_cases hq : k.state = .queued
  · rw [lost_of_queued f hq]
    exact retryRule_rested _
  by_cases hr : k.state = .retryWait
  · rw [lost_of_retryWait f hr]
    exact retryRule_abandoned (h.le (by simp [hr]))
  · rw [lost_of_idle f hq hr (by simpa using hc)]
    exact h

theorem RetryRule.arrived {f : ChannelConfig} {k : Controller} (h : RetryRule f k) : RetryRule f (k.arrived f) := by
  by_cases ho : k.state = .off ∧ f.admin = .enabled
  · have hle : k.retryCount ≤ f.retryLimit := h.le (by simp [ho.1])
    exact .of_le hle (by simp [Controller.arrived, ho]) (by simp [Controller.arrived, ho])
      (by simp [Controller.arrived, ho])
  · have e : k.arrived f = { k with demand := true } := by simp [Controller.arrived, ho]
    rw [e]
    exact h

theorem RetryRule.faulted {f : ChannelConfig} {k : Controller} (h : RetryRule f k) (cause : FaultCause)
    (hc : k.state.closed = true) : RetryRule f (k.faulted f cause) := by
  have hle : k.retryCount ≤ f.retryLimit := h.le fun e => by rw [e] at hc; cases hc
  unfold Controller.faulted RetryRule
  by_cases hx : f.retryLimit < k.retryCount + 1
  · simp only [hx, if_true]; omega
  · simp only [hx, if_false]; omega

theorem RetryRule.putHeld {f : ChannelConfig} {k : Controller} (h : RetryRule f k) : RetryRule f (k.putHeld f) := by
  unfold Controller.putHeld
  split
  · exact retryRule_rested k
  · exact retryRule_stopped (h.le (by simp [*]))
  · exact retryRule_stopped (h.le (by simp [*]))
  · exact retryRule_stopped (h.le (by simp [*]))
  · exact retryRule_abandoned (h.le (by simp [*]))
  all_goals exact h

theorem RetryRule.stands {f : ChannelConfig} {k k' : Controller} (h : RetryRule f k) (hk : k.StandsAs k') :
    RetryRule f k' := by
  rcases hk.count with e | ⟨e, hs⟩
  · unfold RetryRule at *
    rwa [hk.state, e]
  · refine .of_zero e ?_
    rw [hk.state]
    rcases hs with e | e <;> simp [e]

theorem RetryRule.limited {f f' : ChannelConfig} {k : Controller} (h : RetryRule f k)
    (hc : k.state.configurable = true) : RetryRule f' (k.limited f') := by
  unfold Controller.limited RetryRule at *
  cases hs : k.state <;> simp_all [ChannelState.configurable]

theorem rule_retry : Rule RetryRule fun _ _ => True where
  turned h ht := by
    cases ht with
    | arrived => exact h.arrived
    | lost => exact h.lost
    | stopped hc => exact retryRule_stopped (h.le fun e => by rw [e] at hc; cases hc)
  faulted cause h hc := h.faulted cause hc
  granted _ _ h hq := h.le (by simp [hq])
  started h hs := h.le (by simp [hs])
  switched _ h hc := h.le fun e => by rw [e] at hc; cases hc
  entersOn h hs := h.le (by simp [hs])
  stands h hk := h.stands hk
  waited h hs := retryRule_waitEnded (h.le (by rcases hs with e | e <;> simp [e]))
  unlatched {f k} _ _ := by
    unfold Controller.unlatched
    split
    · exact .of_zero rfl (by simp)
    · exact retryRule_rested _
  held {f _} h _ := RetryRule.putHeld (f := { f with admin := .held }) h
  unheld {f k} h _ := by
    unfold Controller.putUnheld
    split
    next ho => exact .of_le (h.le (by simp [ho.1])) (by simp) (by simp) (by simp)
    next => exact h
  retired {f k} h hc := by
    unfold Controller.putRetired
    split
    · exact .of_zero rfl (by simp)
    · exact h
  restored {f k} h _ _ := by
    unfold Controller.putRestored
    split
    next hr =>
      split
      · exact .of_le (h.le (by simp [hr])) (by simp) (by simp) (by simp)
      · exact retryRule_rested k
    next => exact h
  rewritten {f f' k} h _ hl := by
    unfold RetryRule at *
    rwa [hl]
  limited h hc _ := h.limited hc
  loaded f := by
    refine .of_zero rfl ?_
    rcases Controller.atLoad_state f with e | e | e <;> simp [e]
  reset := .of_zero rfl (by simp [Controller.atReset])

/-- Settles O56: the count is a matter of each channel's record and controller, and each transition keeps its law. -/
theorem retryLawIsKept : Obligations.RetryLawIsKept := by
  intro s t hload halloc hs hstep
  rw [allocationLaw_iff] at halloc
  exact (lawful_step rule_retry hload ⟨halloc, hs⟩ hstep).ruled

end Sys2Proof.Machine
end

section
/-! PROOFS. The notice queues: no step takes one past 32 records, and none outside OPEN holds any. -/

namespace Sys2Proof.Machine

/-! ### The bound -/

/-- No notice queue passes its bound (R172). -/
def Bounded (s t : State) : Prop := ∀ g, (s.noticesOf g).length ≤ 32 → (t.noticesOf g).length ≤ 32

theorem Bounded.refl (s : State) : Bounded s s := fun _ h => h

theorem Bounded.trans {s t u : State} (h : Bounded s t) (k : Bounded t u) : Bounded s u :=
  fun g hg => k g (h g hg)

theorem Bounded.of_same {s t : State} (h : t.notices = s.notices) : Bounded s t := fun g hg => by
  rwa [State.noticesOf, h]

/-- A first part that writes no record. -/
theorem Bounded.after {s t u : State} (k : Bounded t u) (h : t.notices = s.notices) : Bounded s u :=
  (Bounded.of_same h).trans k

theorem bounded_foldl {α : Type} {f : State → α → State} (hf : ∀ t x, Bounded t (f t x)) (l : List α) (s : State) :
    Bounded s (l.foldl f s) := foldl_keeps (P := Bounded s) (fun t x h => h.trans (hf t x)) l (.refl s)

theorem endWait_notices (s : State) (c : Chan) : (s.endWait c).notices = s.notices := by
  unfold State.endWait State.enterOff
  dsimp only
  split
  · rfl
  · split <;> rfl

theorem enterOff_notices (s : State) (c : Chan) : (s.enterOff c).notices = s.notices := by
  unfold State.enterOff
  dsimp only
  split <;> rfl

theorem abandonRetry_notices (s : State) (c : Chan) : (s.abandonRetry c).notices = s.notices := by
  unfold State.abandonRetry
  dsimp only
  split
  · rfl
  · exact enterOff_notices _ c

theorem bounded_stopOne (s : State) (cause : StopCause) (c : Chan) : Bounded s (s.stopOne cause c) := by
  unfold State.stopOne
  dsimp only
  refine .trans (.of_same ?_) (apart_reportChannel _ c _).bounded
  split
  · exact endWait_notices _ c
  · rfl

theorem demandArrival_notices (s : State) (c : Chan) : (s.demandArrival c).notices = s.notices := by
  unfold State.demandArrival
  split
  · split <;> rfl
  all_goals rfl

theorem demandLoss_notices {s : State} {c : Chan} (h : (s.ctl c).state.charged = false) :
    (s.demandLoss c).notices = s.notices := by
  unfold State.demandLoss
  dsimp only
  split
  · exact enterOff_notices _ c
  · simp_all [ChannelState.charged]
  · simp_all [ChannelState.charged]
  · simp_all [ChannelState.charged]
  · exact abandonRetry_notices _ c
  all_goals rfl

theorem Bit.bounded {s t : State} (h : Bit s t) : Bounded s t := by
  cases h with
  | draw n => exact .refl s
  | arrived c _ => exact .of_same (demandArrival_notices s c)
  | lost c hc _ => exact .of_same (demandLoss_notices hc)
  | released c _ _ => exact (bounded_stopOne (s.setCtl c (s.ctl c).itemless) .released c).after rfl
  | reprioritized c => exact .of_same (by rw [reprioritize_frame])
  | stopped cause c _ => exact bounded_stopOne s cause c
  | shed r v _ _ => exact bounded_foldl (fun t x => bounded_stopOne t _ _) v s

theorem Bits.bounded {s t : State} (h : Bits s t) : Bounded s t :=
  h.keeps (P := Bounded s) (fun hb h => h.trans hb.bounded) (.refl s)

theorem valued_notices (s : State) : s.valued.notices = s.notices := by
  unfold State.valued
  generalize tabulate s.demandNow = x
  rfl

theorem bounded_faultOne (s : State) (cause : FaultCause) (c : Chan) : Bounded s (s.faultOne cause c) := by
  unfold State.faultOne
  exact Bounded.after (apart_reportChannel _ c _).bounded rfl

theorem Act.bounded {s t : State} (h : Act s t) : Bounded s t := by
  cases h with
  | bit hb => exact hb.bounded
  | valued => exact .of_same (valued_notices s)
  | faulted cause c _ => exact bounded_faultOne s cause c
  | granted e r _ _ => exact .of_same rfl

theorem Acts.bounded {s t : State} (h : Acts s t) : Bounded s t :=
  h.keeps (P := Bounded s) (fun ha h => h.trans ha.bounded) (.refl s)

theorem bounded_switchOne (s : State) (x : Charge) (lost new : Rail) : Bounded s (s.switchOne x lost new) := by
  unfold State.switchOne
  exact Bounded.after (apart_reportChannel _ _ _).bounded rfl

theorem bounded_stop (s : State) (cause : StopCause) (c : Chan) : Bounded s (s.stop cause c) :=
  (bounded_stopOne s cause c).trans (bits_stopTree _ cause c s).bounded

theorem bounded_takeLoss (s : State) (lost : Rail) (x : LossEntry) : Bounded s (s.takeLoss lost x) := by
  rcases takeLoss_cases s lost x with ⟨-, e⟩ | ⟨-, -, e⟩ | ⟨r, v, -, hm, e⟩ <;> rw [e]
  · exact .refl s
  · exact bounded_stop s _ _
  · obtain ⟨-, -, -, hv⟩ := moveOf_eq_some hm
    exact ((bit_shed hv).bounded.trans (bounded_switchOne _ _ _ _)).trans (bits_enterSwitchover _ _ _ _).bounded

theorem bounded_loseRail (s : State) (r : Rail) : Bounded s (s.loseRail r) := by
  rw [loseRail_eq]
  have hlist := bounded_foldl (fun t x => bounded_takeLoss t r x) (s.lossList r) (s.railDown r)
  exact (hlist.trans (apart_reportRail _ _).bounded).after rfl

theorem Rough.bounded {s t : State} (h : Rough s t) : Bounded s t := by
  cases h with
  | inputs hb => exact hb.bounded
  | unlatched c hc =>
    refine .of_same ?_
    unfold State.unlatch
    dsimp only
    split
    · rfl
    · exact enterOff_notices _ c
  | held c ha =>
    have hf : ((s.setAdmin c .held).cfg c).admin = .held := by rw [setAdmin_cfg_self]
    unfold State.controllerHold
    split
    · exact .of_same (enterOff_notices _ c)
    · exact (bounded_stop (s.setAdmin c .held) _ _).after rfl
    · exact (bounded_stop (s.setAdmin c .held) _ _).after rfl
    · exact (bounded_stop (s.setAdmin c .held) _ _).after rfl
    · exact .of_same (abandonRetry_notices _ c)
    all_goals exact .of_same rfl
  | unheld c ha =>
    refine .of_same ?_
    unfold State.controllerUnhold
    split
    · split <;> rfl
    all_goals rfl
  | restored c ha =>
    refine .of_same ?_
    unfold State.controllerRestore
    split
    · split
      · rfl
      · exact enterOff_notices _ c
    all_goals rfl
  | retired c hconf hch ha hb =>
    refine Bounded.after hb.bounded ?_
    unfold State.controllerRetire
    split <;> rfl
  | policySet ops c f hf hconf hp hb => exact Bounded.after hb.bounded rfl

theorem Whole.bounded {s t : State} (h : Whole s t) : Bounded s t := by
  cases h with
  | apart ha => exact ha.bounded
  | stands c k _ => exact .of_same rfl
  | on c _ =>
    unfold State.enterOn
    exact Bounded.after (apart_reportChannel _ c _).bounded rfl
  | started c _ => exact .of_same rfl
  | waited c _ => exact .of_same (endWait_notices s c)
  | faulted cause c hc => exact (acts_fault cause hc).bounded
  | admitted r e v he hv => exact (acts_admitted he hv).bounded
  | railMoved r m _ => exact .of_same rfl
  | railLost r _ => exact bounded_loseRail s r
  | recomputed hx => exact hx.bounded.trans (acts_recompute _).bounded
  | powerSet ops c f _ _ => exact .of_same rfl
  | faultSet ops c f _ _ =>
    rw [applyRetryLimit_setCfg]
    exact .of_same rfl
  | viewSet g l e => exact .of_same rfl
  | railSet r x _ => exact .of_same rfl

theorem Wholes.bounded {s t : State} (h : Wholes s t) : Bounded s t :=
  h.keeps (P := Bounded s) (fun hx h => h.trans hx.bounded) (.refl s)

theorem does_bounded {s t : State} (h : Does s t) : Bounded s t := by
  rcases does_wholes h with ⟨cause, rfl⟩ | ⟨choice, -, rfl⟩ | hx
  · intro g _
    have e : (s.afterReset cause).noticesOf g = [] := look_replicate _ g
    rw [e]
    exact Nat.zero_le _
  · exact (acts_completeLoad s choice).bounded.after rfl
  · exact hx.bounded

/-! ### Queues outside OPEN -/

/-- No host outside OPEN has a record (R172). -/
def ClosedEmpty (s : State) : Prop := ∀ g, (s.port g).session ≠ .opened → s.noticesOf g = []

theorem noticeLaw_iff (s : State) : NoticeLaw s ↔ (∀ g, (s.noticesOf g).length ≤ 32) ∧ ClosedEmpty s :=
  ⟨fun h => ⟨fun g => (h g).1, fun g => (h g).2⟩, fun h g => ⟨h.1 g, h.2 g⟩⟩

/-- Sessions that were not OPEN stay so, or their queues are empty. -/
theorem ClosedEmpty.of_same {s t : State} (hs : ClosedEmpty s) (hn : t.notices = s.notices)
    (hp : ∀ g, (t.port g).session ≠ .opened → (s.port g).session ≠ .opened) : ClosedEmpty t := fun g hg => by
  rw [State.noticesOf, hn]
  exact hs g (hp g hg)

theorem ClosedEmpty.drifts {s t : State} (hs : ClosedEmpty s) (h : Drifts s t) : ClosedEmpty t := fun g hg => by
  obtain ⟨-, -, hsame⟩ := h.grown g
  rw [h.port] at hg
  rw [hsame hg]
  exact hs g hg

theorem ClosedEmpty.setPort {s : State} (hs : ClosedEmpty s) (h : HostId) {p : Port}
    (hp : p.session ≠ .opened → (s.port h).session ≠ .opened) : ClosedEmpty (s.setPort h p) := by
  refine hs.of_same rfl fun g hg => ?_
  rw [State.port_setPort_of] at hg
  split at hg
  next e => rw [e]; exact hp hg
  next => exact hg

theorem ClosedEmpty.setNotices {s : State} (hs : ClosedEmpty s) (h : HostId) {q : List Notice}
    (hq : (s.port h).session ≠ .opened → q = []) : ClosedEmpty (s.setNotices h q) := fun g hg => by
  rw [State.noticesOf_setNotices_of]
  split
  next e => subst e; exact hq hg
  next => exact hs g hg

theorem endSession_noticesOf (s : State) (h : HostId) (x : Session) (g : HostId) :
    (s.endSession h x).noticesOf g = if g = h then [] else s.noticesOf g := by
  unfold State.endSession State.freeLock
  rw [State.noticesOf_setNotices_of]
  split
  · rfl
  · split <;> rfl

theorem ClosedEmpty.endSession {s : State} (hs : ClosedEmpty s) (h : HostId) (x : Session) :
    ClosedEmpty (s.endSession h x) := fun g hg => by
  rw [endSession_noticesOf]
  split
  · rfl
  next hne =>
    rw [endSession_port, if_neg hne] at hg
    exact hs g hg

theorem ClosedEmpty.removeClaims {s : State} (hs : ClosedEmpty s) (named : Chan → HostId → Bool) :
    ClosedEmpty (s.removeClaims named) := by
  rw [State.removeClaims_frame]
  exact hs

theorem ClosedEmpty.takeOpen {s : State} (hs : ClosedEmpty s) (h : HostId) (period : Nat) (mode : OrphanMode)
    (attention : Bool) : ClosedEmpty (s.takeOpen h period mode attention).1 := by
  have hopen : ClosedEmpty (s.openPort h period mode attention) := hs.setPort h fun hx => absurd rfl hx
  unfold State.takeOpen
  dsimp only
  split
  · exact hopen
  · split
    · exact hopen.of_same (by unfold State.freeLock; split <;> rfl) fun g hg => by rwa [freeLock_port] at hg
    · exact hopen
  · rw [State.adopt_frame]
    exact hopen

theorem closedEmpty_tabled {h : HostId} {s t : State} (hs : ClosedEmpty s) (ht : Tabled h s t) : ClosedEmpty t := by
  cases ht
  case opened period mode attention => exact hs.takeOpen h period mode attention
  case closed ho => exact (hs.endSession h .closed).removeClaims _
  case claimsRemoved named => exact hs.removeClaims named
  case noticeTaken n rest hn => exact hs.setNotices h fun hx => by rw [hs h hx] at hn; cases hn
  case retired c hch => exact ClosedEmpty.removeClaims (s := s.setAdmin c .retired) hs _
  case policySet ops c f hf hp => exact ClosedEmpty.removeClaims (s := s.setCfg c f) hs _
  all_goals exact hs

theorem ClosedEmpty.reportCommit {s : State} (hs : ClosedEmpty s) (h : HostId) (x : Report) :
    ClosedEmpty (s.reportCommit h x) := fun g hg => by
  have hclosed : (s.port g).session ≠ .opened := hg
  rw [State.reportCommit, State.deliver_noticesOf, if_neg (by simp [hclosed])]
  exact hs g hclosed

theorem closedEmpty_endCommit {s : State} (hs : ClosedEmpty s) (job : CommitJob) (verified : Bool) :
    ClosedEmpty (s.endCommit job verified) := by
  unfold State.endCommit
  split
  · exact ClosedEmpty.reportCommit (hs.of_same rfl fun _ hg => hg) _ _
  · exact ClosedEmpty.reportCommit (hs.of_same rfl fun _ hg => hg) _ _

theorem State.takeLapse_cases (s : State) (h : HostId) :
    s.takeLapse h = (s.endSession h .lapsed).orphan h ∨
      s.takeLapse h = State.settle s ((s.endSession h .lapsed).dropSilently fun _ g => g = h) := by
  unfold State.takeLapse
  dsimp only
  split
  · exact .inl rfl
  · exact .inr rfl

theorem closedEmpty_takeLapse {s : State} (hs : ClosedEmpty s) (h : HostId) : ClosedEmpty (s.takeLapse h) := by
  have ended := hs.endSession h .lapsed
  generalize hu : s.endSession h .lapsed = u at ended
  rcases s.takeLapse_cases h with e | e <;> rw [e, hu]
  · rw [State.orphan_frame]
    generalize (u.orphan h).claims = x
    exact ended
  · exact (ended.removeClaims _).drifts ((moves_dropSilently u _).trans (moves_settle s _)).drifts

theorem closedEmpty_does {s t : State} (hs : ClosedEmpty s) (ht : Does s t) : ClosedEmpty t := by
  cases ht with
  | nothing => exact hs
  | portOnly h p hp hq => exact hs.setPort h fun hx => by rwa [hp.session] at hx
  | served h p u hl hu hp =>
    obtain ⟨v, hv, hm⟩ := served_tabled hu
    have hrenewed : ClosedEmpty (s.setPort h (s.port h).renewed) :=
      hs.setPort h fun hx => by rwa [(Port.sameSession_renewed _).session] at hx
    exact ((closedEmpty_tabled hrenewed hv).drifts hm.drifts).setPort h fun hx => by rwa [hp.session] at hx
  | reset cause => exact fun g _ => look_replicate _ g
  | loadBegun hb => exact hs
  | loaded choice hc =>
    have htables : ClosedEmpty (s.loadTables choice) := hs.of_same rfl fun _ hg => hg
    exact htables.drifts (moves_completeLoad s choice).drifts
  | commitEnded job verified hj hage =>
    exact closedEmpty_endCommit hs job verified
  | lapsed h hl ho hx =>
    exact closedEmpty_takeLapse hs h
  | own t hl ht => exact hs.drifts (own_drifts ht)

theorem noticeLaw_step {s t : State} (hs : NoticeLaw s) (h : step s = .next t) : NoticeLaw t := by
  refine step_keeps_of_does (P := NoticeLaw) (fun _ _ hs => hs) (fun _ _ hs => hs) (fun s t hs hd => ?_)
    (fun s hs => ?_) hs h
  · rw [noticeLaw_iff] at *
    exact ⟨fun g => does_bounded hd g (hs.1 g), closedEmpty_does hs.2 hd⟩
  · rw [noticeLaw_iff] at *
    have hn := (passTime_quiet s).notices
    refine ⟨fun g => by rw [State.noticesOf, hn]; exact hs.1 g, hs.2.of_same hn fun g hg => ?_⟩
    rwa [(passTime_sameSession s g).session] at hg

/-- Settles O51: records come and go one at a time and never past the bound, queues fall with their sessions, and the
lock goes where its holder leaves OPEN or its lease. -/
theorem noticeAndLockLawsAreKept : Obligations.NoticeAndLockLawsAreKept :=
  fun _ _ hstep => ⟨fun hs => noticeLaw_step hs hstep, fun hs => lockLaw_step hs hstep⟩

end Sys2Proof.Machine
end

section
/-! PROOFS. The rail budget: only grants and moves place a charge, after as many victims as make room for it. -/

namespace Sys2Proof.Machine

/-! ### Sums of charges -/

@[simp] theorem chargeSum_nil : chargeSum [] = 0 := rfl

@[simp] theorem chargeSum_cons (x : Charge) (l : List Charge) : chargeSum (x :: l) = x.classAU + chargeSum l := by
  simp [chargeSum]

theorem chargeSum_append (l m : List Charge) : chargeSum (l ++ m) = chargeSum l + chargeSum m := by
  simp [chargeSum]

theorem chargeSum_perm {l m : List Charge} (h : l.Perm m) : chargeSum l = chargeSum m := (h.map _).sum_eq

theorem chargeSum_sublist {l m : List Charge} (h : l.Sublist m) : chargeSum l ≤ chargeSum m :=
  (h.map _).sum_le_sum fun _ _ => Nat.zero_le _

theorem chargeSum_subperm {l m : List Charge} (h : l.Subperm m) : chargeSum l ≤ chargeSum m := by
  obtain ⟨k, hp, hs⟩ := h
  rw [← chargeSum_perm hp]
  exact chargeSum_sublist hs

theorem chargeSum_insertBy (x : Charge) (l : List Charge) :
    chargeSum (insertBy Charge.precedes x l) = x.classAU + chargeSum l := by
  rw [chargeSum_perm (insertBy_perm _ _ _), chargeSum_cons]

/-- What is left of a list, and a part of it that is gone, are no more than the list. -/
theorem chargeSum_filter_add {l v : List Charge} (hv : v.Subperm l) {p : Charge → Bool}
    (hp : ∀ x ∈ v, p x = false) : chargeSum (l.filter p) + chargeSum v ≤ chargeSum l := by
  have hgone : v.Subperm (l.filter fun x => !p x) := by
    obtain ⟨k, hk, hs⟩ := hv
    have hfilter := hs.filter fun x => !p x
    rw [List.filter_eq_self.2 fun x hx => by rw [hp x (hk.mem_iff.1 hx)]; rfl] at hfilter
    exact ⟨k, hk, hfilter⟩
  have hsplit := chargeSum_perm (List.filter_append_perm p l)
  rw [chargeSum_append] at hsplit
  have := chargeSum_subperm hgone
  omega

/-- The victims make room (R42). -/
theorem walk_room {need : Nat} : ∀ {l : List Charge} {atHand : Nat} {v : List Charge},
    walk need atHand l = some v → need ≤ atHand + chargeSum v
  | [], atHand, v, h => by
    unfold walk at h
    split at h
    · cases h; simpa using ‹need ≤ atHand›
    · cases h
  | x :: xs, atHand, v, h => by
    unfold walk at h
    split at h
    · cases h; simpa using ‹need ≤ atHand›
    · obtain ⟨w, hw, rfl⟩ := Option.map_eq_some_iff.1 h
      have := walk_room hw
      rw [chargeSum_cons]
      omega

theorem victims_room {s : State} {r : Rail} {p need : Nat} {v : List Charge}
    (h : s.victims r p need = some v) : need ≤ (s.account r).free + chargeSum v := walk_room h

/-! ### Steps that place no charge -/

/-- Limits stay, and no rail is charged more. -/
structure Slims (s t : State) : Prop where
  limit : ∀ r, (t.account r).limit = (s.account r).limit
  allocated : ∀ r, (t.account r).allocated ≤ (s.account r).allocated

theorem Slims.refl (s : State) : Slims s s := ⟨fun _ => rfl, fun _ => Nat.le_refl _⟩

theorem Slims.trans {s t u : State} (h : Slims s t) (k : Slims t u) : Slims s u :=
  ⟨fun r => (k.limit r).trans (h.limit r), fun r => Nat.le_trans (k.allocated r) (h.allocated r)⟩

theorem Slims.of_same {s t : State} (h : ∀ r, t.account r = s.account r) : Slims s t :=
  ⟨fun r => by rw [h], fun r => by rw [h]⟩

theorem slims_foldl {α : Type} {f : State → α → State} (hf : ∀ t x, Slims t (f t x)) (l : List α) (s : State) :
    Slims s (l.foldl f s) := foldl_keeps (P := Slims s) (fun t x h => h.trans (hf t x)) l (.refl s)

theorem without_allocated (x : Account) (c : Chan) : (x.without c).allocated ≤ x.allocated :=
  chargeSum_sublist List.filter_sublist

theorem Slims.of_without {s t : State} {c : Chan}
    (h : ∀ r, t.account r = (s.account r).without c ∨ t.account r = s.account r) : Slims s t := by
  refine ⟨fun r => ?_, fun r => ?_⟩
  · rcases h r with e | e <;> rw [e]
    rfl
  · rcases h r with e | e <;> rw [e]
    exact without_allocated _ c

theorem SameCore.slims {s t : State} (h : SameCore s t) : Slims s t := .of_same h.account

theorem slims_stopOne (s : State) (cause : StopCause) (c : Chan) : Slims s (s.stopOne cause c) :=
  .of_without fun r => .inl (stopOne_account s cause c r)

theorem Turns.slims {s t : State} {c : Chan} {k : Controller} (h : Turns s t c k) : Slims s t := by
  refine .of_without (c := c) fun r => ?_
  rw [h.account, State.recharged]
  split
  · exact .inl rfl
  · exact .inr rfl

theorem Bit.slims {s t : State} (h : Bit s t) : Slims s t := by
  rcases h.cases_turns with h | ⟨c, rfl⟩ | ⟨c, k, ht, -⟩ | ⟨r, v, -, -, rfl⟩
  · exact h.slims
  · exact .of_same (reprioritize_account s c)
  · exact ht.slims
  · exact slims_foldl (fun t x => slims_stopOne t _ _) v s

theorem Bits.slims {s t : State} (h : Bits s t) : Slims s t :=
  h.keeps (P := Slims s) (fun hb h => h.trans hb.slims) (.refl s)

theorem valued_account (s : State) (r : Rail) : s.valued.account r = s.account r := by
  unfold State.valued
  generalize tabulate s.demandNow = x
  rfl

theorem slims_recompute (s : State) : Slims s s.recompute :=
  (Slims.of_same (valued_account s)).trans (bits_recompute s).slims

theorem faultOne_account (s : State) (cause : FaultCause) (c : Chan) (r : Rail) :
    (s.faultOne cause c).account r = (s.account r).without c := by
  unfold State.faultOne
  rw [(sameCore_reportChannel _ _ _).account, State.setCtl_account, State.quiet, State.setSen_account,
    account_uncharge]

theorem slims_faultOne (s : State) (cause : FaultCause) (c : Chan) : Slims s (s.faultOne cause c) :=
  .of_without fun r => .inl (faultOne_account s cause c r)

theorem slims_fault (s : State) (cause : FaultCause) (c : Chan) : Slims s (s.fault cause c) := by
  have h := (slims_faultOne s cause c).trans (bits_faultCascade s cause c).slims
  rw [fault_eq]
  split
  · exact h.trans (slims_recompute _)
  · exact h

/-! ### Steps that place one -/

theorem shed_account {s : State} {r : Rail} {p need : Nat} {v : List Charge} (hv : s.victims r p need = some v) (q : Rail) :
    ((s.shed v).account q).charges = (s.account q).charges.filter fun y => v.all fun x => y.chan ≠ x.chan := by
  rw [shed_victims hv]
  have h (v : List Charge) : ∀ s : State, ((v.foldl (fun t x => t.stopOne .shed x.chan) s).account q).charges =
      (s.account q).charges.filter fun y => v.all fun x => y.chan ≠ x.chan := by
    induction v with
    | nil => intro s; simp
    | cons x v ih =>
      intro s
      rw [List.foldl_cons, ih, stopOne_account, Account.without, List.filter_filter]
      refine List.filter_congr fun y _ => ?_
      simp [Bool.and_comm]
  exact h v s

/-- Once the victims are shed the rail has room for what was needed. -/
theorem shed_room {s : State} {r : Rail} {p need : Nat} {v : List Charge} (hv : s.victims r p need = some v)
    (hs : (s.account r).allocated ≤ (s.account r).limit) :
    need + ((s.shed v).account r).allocated ≤ (s.account r).limit := by
  have hleft : ((s.shed v).account r).allocated + chargeSum v ≤ (s.account r).allocated := by
    unfold Account.allocated
    rw [shed_account hv]
    refine chargeSum_filter_add (victims_spec hv).1 fun x hx => ?_
    rw [List.all_eq_false]
    exact ⟨x, hx, by simp⟩
  have hroom := victims_room hv
  unfold Account.free at hroom
  omega

theorem slims_shed {s : State} {r : Rail} {p need : Nat} {v : List Charge} (hv : s.victims r p need = some v) :
    Slims s (s.shed v) := (bit_shed hv).slims

/-- A charge for which there is room may be placed. -/
theorem budgetLaw_insert {s t : State} {r : Rail} (h : BudgetLaw s)
    (hlimit : ∀ q, (t.account q).limit = (s.account q).limit)
    (hr : (t.account r).allocated ≤ (s.account r).limit)
    (hq : ∀ q ≠ r, (t.account q).allocated ≤ (s.account q).allocated) : BudgetLaw t := fun q => by
  rw [hlimit]
  by_cases e : q = r
  · rw [e]; exact hr
  · exact Nat.le_trans (hq q e) (h q)

theorem BudgetLaw.slims {s t : State} (h : BudgetLaw s) (k : Slims s t) : BudgetLaw t := fun r => by
  rw [k.limit]
  exact Nat.le_trans (k.allocated r) (h r)

theorem budgetLaw_admitted {s : State} (h : BudgetLaw s) {r : Rail} {e : QueueEntry} {v : List Charge}
    (hv : s.victims r e.priority (s.cfg e.chan).classAU = some v) :
    BudgetLaw ((s.shed v).grantEntry e.chan r) := by
  have hshed := slims_shed hv
  have hg := granted_grantEntry (s.shed v) e.chan r
  refine budgetLaw_insert (r := r) h (fun q => ?_) ?_ (fun q hq => ?_)
  · rw [hg.account]
    split
    next e => rw [e]; exact hshed.limit r
    next => exact hshed.limit q
  · rw [hg.account, if_pos rfl]
    unfold Account.allocated
    rw [chargeSum_insertBy, (moves_shed s v).cfg]
    exact shed_room hv (h r)
  · rw [hg.account, if_neg hq]
    exact hshed.allocated q

theorem budgetLaw_move {s : State} (h : BudgetLaw s) {lost r : Rail} {p : Nat} {x : Charge} {v : List Charge}
    (hv : s.victims r p x.classAU = some v) : BudgetLaw ((s.shed v).switchOne x lost r) := by
  have hshed := slims_shed hv
  have hm := moved_switchOne (s.shed v) x lost r
  refine budgetLaw_insert (r := r) h (fun q => ?_) ?_ (fun q hq => ?_)
  · rw [hm.account]
    split
    next e => rw [e]; exact hshed.limit r
    next => exact hshed.limit q
  · rw [hm.account, if_pos rfl]
    unfold Account.allocated
    rw [chargeSum_insertBy]
    have hroom := shed_room hv (h r)
    have hless := without_allocated ((s.shed v).account r) x.chan
    unfold Account.allocated at hroom hless
    omega
  · rw [hm.account, if_neg hq]
    exact Nat.le_trans (without_allocated _ _) (hshed.allocated q)

theorem slims_stop (s : State) (cause : StopCause) (c : Chan) : Slims s (s.stop cause c) :=
  (slims_stopOne s cause c).trans (bits_stopTree _ cause c s).slims

theorem budgetLaw_takeLoss {s : State} (h : BudgetLaw s) (lost : Rail) (x : LossEntry) :
    BudgetLaw (s.takeLoss lost x) := by
  rcases takeLoss_cases s lost x with ⟨-, e⟩ | ⟨-, -, e⟩ | ⟨r, v, -, hm, e⟩ <;> rw [e]
  · exact h
  · exact h.slims (slims_stop s _ _)
  · obtain ⟨-, -, -, hv⟩ := moveOf_eq_some hm
    exact (budgetLaw_move h hv).slims (bits_enterSwitchover _ _ _ _).slims

theorem budgetLaw_loseRail {s : State} (h : BudgetLaw s) (r : Rail) : BudgetLaw (s.loseRail r) := by
  rw [loseRail_eq]
  have hlist : BudgetLaw ((s.lossList r).foldl (fun u x => u.takeLoss r x) (s.railDown r)) :=
    foldl_keeps (P := BudgetLaw) (fun t x ht => budgetLaw_takeLoss ht r x) _ (s := s.railDown r) h
  exact hlist.slims (sameCore_deliver _ _ _).slims

/-! ### Whole steps -/

/-- A channel's record may be rewritten before a step. -/
theorem Slims.after_setCfg {s t : State} {c : Chan} {f : ChannelConfig} (h : Slims (s.setCfg c f) t) : Slims s t :=
  ⟨h.limit, h.allocated⟩

theorem Rough.slims {s t : State} (h : Rough s t) : Slims s t := by
  cases h with
  | inputs hb => exact hb.core.slims
  | unlatched c hc => exact (turns_unlatch hc).slims
  | held c ha =>
    obtain ⟨u, hu, hbits⟩ := turns_controllerHold (s := s.setAdmin c .held) (c := c) (by rw [setAdmin_cfg_self])
    exact (hu.slims.trans hbits.slims).after_setCfg
  | unheld c ha => exact (turns_controllerUnhold (s.setAdmin c .enabled) c).slims.after_setCfg
  | restored c ha => exact (turns_controllerRestore (s.setAdmin c .enabled) c).slims.after_setCfg
  | retired c hconf hch ha hb =>
    exact ((turns_controllerRetire (s.setAdmin c .retired) c).slims.trans hb.core.slims).after_setCfg
  | policySet ops c f hf hconf hp hb => exact hb.core.slims.after_setCfg

/-- A whole step places a charge where there is room, or none. -/
theorem Whole.budgetLaw {s t : State} (hx : Whole s t) (h : BudgetLaw s) : BudgetLaw t := by
  cases hx with
  | apart ha => exact h.slims ha.core.slims
  | stands c k _ => exact h
  | on c _ => exact h
  | started c _ => exact h
  | waited c _ => exact h.slims (.of_same (endWait_account s c))
  | faulted cause c _ => exact h.slims (slims_fault s cause c)
  | admitted r e v _ hv => exact budgetLaw_admitted h hv
  | railMoved r m _ => exact h
  | railLost r _ => exact budgetLaw_loseRail h r
  | recomputed hx => exact (h.slims hx.slims).slims (slims_recompute _)
  | powerSet ops c f _ _ => exact h
  | faultSet ops c f _ _ =>
    rw [applyRetryLimit_setCfg]
    exact h
  | viewSet g l e => exact h
  | railSet r x hall =>
    intro q
    rw [State.account_setAccount_of]
    split
    · exact hall
    · exact h q

/-! ### Limits -/

/-- Limits and rail records stay. -/
def SameLimits (s t : State) : Prop :=
  (∀ r, (t.account r).limit = (s.account r).limit) ∧ t.config.rails = s.config.rails

theorem LimitLaw.same {s t : State} (h : LimitLaw s) (k : SameLimits s t) : LimitLaw t := fun r => by
  rw [k.1, k.2]
  exact h r

theorem Slims.limits {s t : State} (h : Slims s t) (k : Moves s t) : SameLimits s t :=
  ⟨h.limit, by rw [k.kept.config]⟩

theorem grantEntry_limit (s : State) (c : Chan) (r q : Rail) :
    ((s.grantEntry c r).account q).limit = (s.account q).limit := by
  rw [(granted_grantEntry s c r).account]
  split
  next e => rw [e]
  next => rfl

theorem switchOne_limit (s : State) (x : Charge) (lost new q : Rail) :
    ((s.switchOne x lost new).account q).limit = (s.account q).limit := by
  rw [(moved_switchOne s x lost new).account]
  split
  next e => rw [e]; rfl
  next => rfl

theorem takeLoss_limit (s : State) (lost : Rail) (x : LossEntry) (q : Rail) :
    ((s.takeLoss lost x).account q).limit = (s.account q).limit := by
  rcases takeLoss_cases s lost x with ⟨-, e⟩ | ⟨-, -, e⟩ | ⟨r, v, -, hm, e⟩ <;> rw [e]
  · exact (slims_stop s _ _).limit q
  · obtain ⟨-, -, -, hv⟩ := moveOf_eq_some hm
    rw [(bits_enterSwitchover _ _ _ _).slims.limit, switchOne_limit, (slims_shed hv).limit]

theorem loseRail_limit (s : State) (r q : Rail) : ((s.loseRail r).account q).limit = (s.account q).limit := by
  rw [loseRail_eq]
  refine ((sameCore_deliver _ _ _).slims.limit q).trans ?_
  exact foldl_keeps (P := fun t => (t.account q).limit = (s.account q).limit)
    (fun t x ht => (takeLoss_limit t r x q).trans ht) (s.lossList r) (s := s.railDown r) rfl

theorem Rough.rails {s t : State} (h : Rough s t) : t.config.rails = s.config.rails := by
  cases h with
  | inputs hb => rw [hb.core.config]
  | unlatched c hc => rw [(moves_unlatch s c).kept.config]
  | held c ha => rw [(moves_controllerHold _ c).kept.config]; rfl
  | unheld c ha => rw [(moves_controllerUnhold _ c).kept.config]; rfl
  | restored c ha => rw [(moves_controllerRestore _ c).kept.config]; rfl
  | retired c hconf hch ha hb => rw [hb.core.config, (moves_controllerRetire _ c).kept.config]; rfl
  | policySet ops c f hf hconf hp hb => rw [hb.core.config]; rfl

theorem Whole.limitLaw {s t : State} (hx : Whole s t) (h : LimitLaw s) : LimitLaw t := by
  cases hx with
  | apart ha => exact h.same ⟨ha.core.slims.limit, by rw [ha.core.config]⟩
  | stands c k _ => exact h
  | on c _ => exact h
  | started c _ => exact h
  | waited c _ => exact h.same ((Slims.of_same (endWait_account s c)).limits (moves_endWait s c))
  | faulted cause c _ => exact h.same ((slims_fault s cause c).limits (moves_fault s cause c))
  | admitted r e v _ hv =>
    refine h.same ⟨fun q => ?_, ?_⟩
    · rw [grantEntry_limit, (slims_shed hv).limit]
    · rw [((moves_shed s v).trans (moves_grantEntry _ _ r)).kept.config]
  | railMoved r m _ => exact h
  | railLost r _ => exact h.same ⟨loseRail_limit s r, by rw [(moves_loseRail s r).kept.config]; rfl⟩
  | recomputed hx =>
    refine h.same ⟨(hx.slims.trans (slims_recompute _)).limit, ?_⟩
    rw [(moves_recompute _).kept.config, hx.rails]
  | powerSet ops c f _ _ => exact h
  | faultSet ops c f _ _ =>
    rw [applyRetryLimit_setCfg]
    exact h
  | viewSet g l e => exact h
  | railSet r x hall =>
    intro q
    rw [State.account_setAccount_of]
    have hrec : (({ s with config := { s.config with rails := s.config.rails.setOf r x } } : State).setAccount r
        { s.account r with limit := x.limit }).config.rails.of q = if q = r then x else s.config.rails.of q :=
      PerRail.of_setOf _ _ _ _
    rw [hrec]
    split
    · rfl
    · exact h q

/-! ### Every step -/

/-- After a load both rails are DOWN, so nothing is granted. -/
theorem completeLoad_settled {s : State} (h : LoadingCore s) (choice : Option SlotId) :
    s.completeLoad choice = (s.loadTables choice).recompute := by
  have hdown (r : Rail) : (s.loadTables choice).recompute.isUp r = false := by
    rw [isUp_of_rails (moves_recompute _).kept.rails]
    have hr : (s.loadTables choice).rail r = s.rail r := rfl
    rw [State.isUp, hr, h.rails]
    rfl
  rw [completeLoad_eq, settle_of_rails_down (hdown .a) (hdown .b)]

theorem loadTables_limit (s : State) (choice : Option SlotId) (r : Rail) :
    ((s.loadTables choice).account r).limit = ((s.loadTables choice).config.rails.of r).limit := by
  cases r <;> rfl

/-- Settles O52: a charge is placed after the victims that make room for it, and limits follow the records. -/
theorem budgetLawIsKept : Obligations.BudgetLawIsKept := by
  intro s t hload hs hstep
  refine ⟨step_keeps_of_wholes (P := BudgetLaw) (fun hx h => hx.budgetLaw h) (fun s cause r => ?_)
      (fun s choice hload hstore _ => ?_) (fun s h r => ?_) hload hs hstep,
    fun hlim => step_keeps_of_wholes (P := LimitLaw) (fun hx h => hx.limitLaw h) (fun s cause r => ?_)
      (fun s choice hload hstore _ => ?_) (fun s h r => ?_) hload hlim hstep⟩
  · cases r <;> exact Nat.le_refl 0
  · have hcore := hload.core (isLoading_of_loading hstore)
    rw [completeLoad_settled hcore]
    refine BudgetLaw.slims (fun r => ?_) (slims_recompute _)
    rw [Account.allocated, loadTables_charges, hcore.charges]
    exact Nat.zero_le _
  · rw [(passTime_quiet s).account]
    exact h r
  · cases r <;> rfl
  · rw [completeLoad_settled (hload.core (isLoading_of_loading hstore))]
    exact LimitLaw.same (loadTables_limit s choice) ((slims_recompute _).limits (moves_recompute _))
  · rw [(passTime_quiet s).account, (passTime_quiet s).config]
    exact h r

end Sys2Proof.Machine
end

section
/-! PROOFS. The Claim Arbiter's formulas: what they read, and that every recomputation brings the demand values to
them and nothing between two of them moves what they read. -/

namespace Sys2Proof.Machine

/-! ### What the formulas read -/

/-- The fields of a record that the formulas read (R3 to R14). -/
structure SameDemandFields (f g : ChannelConfig) : Prop where
  parent : g.parent = f.parent
  admin : g.admin = f.admin
  policy : g.policy = f.policy
  claimants : g.claimants = f.claimants
  floor : g.floor = f.floor
  enableLine : g.enableLine = f.enableLine

theorem SameDemandFields.refl (f : ChannelConfig) : SameDemandFields f f := ⟨rfl, rfl, rfl, rfl, rfl, rfl⟩

/-- The same channels are LATCHED. -/
def SameLatched (s t : State) : Prop := ∀ c, (t.ctl c).state = .latched ↔ (s.ctl c).state = .latched

theorem SameLatched.refl (s : State) : SameLatched s s := fun _ => Iff.rfl

theorem SameLatched.trans {s t u : State} (h : SameLatched s t) (k : SameLatched t u) : SameLatched s u :=
  fun c => (k c).trans (h c)

theorem SameLatched.of_state {s t : State} (h : ∀ c, (t.ctl c).state = (s.ctl c).state) : SameLatched s t :=
  fun c => by rw [h]

/-- All that the formulas read agrees. -/
structure DemandsAs (s t : State) : Prop where
  records : ∀ c, SameDemandFields (s.cfg c) (t.cfg c)
  claims : ∀ c g, (t.claimOf c g).map Claim.priority = (s.claimOf c g).map Claim.priority
  lines : ∀ k, (t.line k).qualified = (s.line k).qualified
  latched : SameLatched s t

section Congruence

variable {s t : State} (h : DemandsAs s t)
include h

theorem DemandsAs.claimed (c : Chan) (g : HostId) : (t.claimOf c g).isSome = (s.claimOf c g).isSome := by
  have := congrArg Option.isSome (h.claims c g)
  simpa using this

theorem DemandsAs.claimPriority (c : Chan) (g : HostId) :
    claimPriority (t.claimOf c g) = claimPriority (s.claimOf c g) := by
  have := h.claims c g
  cases hs : s.claimOf c g <;> cases ht : t.claimOf c g <;> simp_all [Sys2Proof.Machine.claimPriority]

theorem DemandsAs.own (c : Chan) : t.ownDemand c = s.ownDemand c := by
  have hr := h.records c
  have hadmits (g : HostId) : ChannelConfig.admits (t.cfg c) g = ChannelConfig.admits (s.cfg c) g := by
    rw [ChannelConfig.admits, ChannelConfig.admits, hr.claimants]
  simp only [State.ownDemand, hr.admin, hr.policy, hr.enableLine, h.lines, h.claimed, hadmits]

theorem DemandsAs.ownPriority (c : Chan) : t.ownPriority c = s.ownPriority c := by
  have hr := h.records c
  simp only [State.ownPriority, h.own, hr.policy, hr.floor, h.claimPriority]

theorem DemandsAs.mayContribute (c : Chan) : t.mayContribute c = s.mayContribute c := by
  simp only [State.mayContribute, (h.records c).admin, ne_eq, h.latched c]

theorem DemandsAs.children (c : Chan) : t.children c = s.children c :=
  List.filter_congr fun k _ => by rw [(h.records k).parent]

theorem DemandsAs.effectiveDemand (n : Nat) (c : Chan) : t.effectiveDemand n c = s.effectiveDemand n c := by
  induction n generalizing c with
  | zero => exact h.own c
  | succ n ih => simp only [State.effectiveDemand, h.own, h.children, h.mayContribute, ih]

theorem DemandsAs.effectivePriority (n : Nat) (c : Chan) : t.effectivePriority n c = s.effectivePriority n c := by
  induction n generalizing c with
  | zero => simp only [State.effectivePriority, (h.records c).floor, h.ownPriority]
  | succ n ih =>
    simp only [State.effectivePriority, (h.records c).floor, h.ownPriority, h.children, h.mayContribute,
      h.effectiveDemand, ih]

theorem DemandsAs.demandNow (c : Chan) : t.demandNow c = s.demandNow c := by
  simp only [State.demandNow, h.own, h.ownPriority, h.effectiveDemand, h.effectivePriority, h.mayContribute,
    (h.records c).parent]

end Congruence

/-- The demand values are those of the formulas (R10 to R14). -/
def Formulaic (s : State) : Prop := ∀ c, s.dem c = s.demandNow c

theorem Formulaic.same {s t : State} (hs : Formulaic s) (h : DemandsAs s t) (hd : t.demand = s.demand) : Formulaic t :=
  fun c => by
    rw [h.demandNow, ← hs c, State.dem, State.dem, hd]

theorem Moves.demandsAs {s t : State} (h : Moves s t) (hl : SameLatched s t) : DemandsAs s t :=
  ⟨fun c => by rw [h.cfg]; exact .refl _, fun c g => by rw [h.claimOf],
    fun k => by rw [State.line, State.line, h.kept.enables], hl⟩

/-! ### LATCHED channels under stops and small steps -/

theorem rested_ne_latched (k : Controller) (f : ChannelConfig) : (k.rested f).state ≠ .latched := by
  unfold Controller.rested
  dsimp only
  split <;> simp

theorem waitEnded_ne_latched (k : Controller) (f : ChannelConfig) : (k.waitEnded f).state ≠ .latched := by
  unfold Controller.waitEnded
  split
  · simp
  · exact rested_ne_latched k f

theorem stopped_ne_latched (k : Controller) (f : ChannelConfig) : (k.stopped f).state ≠ .latched := by
  unfold Controller.stopped
  split
  · exact waitEnded_ne_latched _ f
  · simp [Controller.halted]

theorem abandoned_ne_latched (k : Controller) (f : ChannelConfig) : (k.abandoned f).state ≠ .latched := by
  unfold Controller.abandoned
  split
  · simp
  · exact rested_ne_latched _ f

/-- Arrivals, losses and stops neither make nor end LATCHED. -/
theorem Turned.latched {f : ChannelConfig} {k k' : Controller} (h : Turned f k k') :
    k'.state = .latched ↔ k.state = .latched := by
  cases h with
  | arrived =>
    unfold Controller.arrived
    dsimp only
    split
    next h => simp [h.1]
    next => rfl
  | lost =>
    by_cases hc : k.state.charged = true
    · rw [lost_of_charged f hc]
      simp only [stopped_ne_latched, false_iff]
      intro e
      rw [e] at hc
      cases hc
    by_cases hq : k.state = .queued
    · rw [lost_of_queued f hq]
      simp [rested_ne_latched, hq]
    by_cases hr : k.state = .retryWait
    · rw [lost_of_retryWait f hr]
      simp [abandoned_ne_latched, hr]
    · rw [lost_of_idle f hq hr (by simpa using hc)]
      rfl
  | stopped hc =>
    simp only [stopped_ne_latched, false_iff]
    intro e
    rw [e] at hc
    cases hc

theorem Turns.sameLatched {s t : State} {c : Chan} {k : Controller} (h : Turns s t c k)
    (hk : k.state = .latched ↔ (s.ctl c).state = .latched) : SameLatched s t := fun j => by
  by_cases hj : j = c
  · rw [hj, h.ctl_self]; exact hk
  · rw [h.ctl_ne hj]

theorem SameCore.sameLatched {s t : State} (h : SameCore s t) : SameLatched s t := .of_state fun c => by rw [h.ctl]

theorem sameLatched_stopOne {s : State} {c : Chan} (h : (s.ctl c).state ≠ .latched) (cause : StopCause) :
    SameLatched s (s.stopOne cause c) := fun j => by
  rw [stopOne_ctl]
  split
  next e => subst e; simp [stopped_ne_latched, h]
  next => rfl

theorem sameLatched_stops {v : List Charge} {s : State} (h : ∀ x ∈ v, (s.ctl x.chan).state ≠ .latched) :
    SameLatched s (v.foldl (fun t x => t.stopOne .shed x.chan) s) :=
  List.foldlRecOn v (fun t x => t.stopOne .shed x.chan) (motive := fun t : State => SameLatched s t) (.refl s)
    fun _ ht x hx => ht.trans (sameLatched_stopOne (mt (ht x.chan).1 (h x hx)) _)

theorem Bit.sameLatched {s t : State} (h : Bit s t) : SameLatched s t := by
  rcases h.cases_turns with h | ⟨c, rfl⟩ | ⟨c, k, ht, hk⟩ | ⟨r, v, -, hc, rfl⟩
  · exact h.sameLatched
  · exact .of_state fun j => by rw [reprioritize_ctl]
  · exact ht.sameLatched hk.latched
  · refine sameLatched_stops fun x hx e => ?_
    have := hc x hx
    rw [e] at this
    cases this

theorem Bits.sameLatched {s t : State} (h : Bits s t) : SameLatched s t :=
  h.keeps (P := SameLatched s) (fun hb h => h.trans hb.sameLatched) (.refl s)

theorem endWait_demand (s : State) (c : Chan) : (s.endWait c).demand = s.demand := by
  unfold State.endWait State.enterOff
  dsimp only
  split
  · rfl
  · split <;> rfl

theorem stopOne_demand (s : State) (cause : StopCause) (c : Chan) : (s.stopOne cause c).demand = s.demand := by
  unfold State.stopOne
  dsimp only
  rw [(sameCore_reportChannel _ _ _).demand]
  split
  · exact endWait_demand _ c
  · rfl

/-- Small steps leave the demand values. -/
theorem Bit.demand {s t : State} (h : Bit s t) : t.demand = s.demand := by
  rcases h.cases_turns with h | ⟨c, rfl⟩ | ⟨c, k, ht, -⟩ | ⟨r, v, -, -, rfl⟩
  · exact h.demand
  · rw [reprioritize_frame]
  · exact ht.demand
  · exact foldl_keeps (P := fun t => t.demand = s.demand) (fun t x ht => (stopOne_demand t _ _).trans ht) v rfl

theorem Bits.demand {s t : State} (h : Bits s t) : t.demand = s.demand :=
  h.keeps (P := fun t => t.demand = s.demand) (fun hb h => hb.demand.trans h) rfl

theorem Bits.moves {s t : State} (h : Bits s t) : Moves s t :=
  h.keeps (P := Moves s) (fun hb h => h.trans hb.moves) (.refl s)

theorem Bits.formulaic {s t : State} (h : Bits s t) (hs : Formulaic s) : Formulaic t :=
  hs.same (h.moves.demandsAs h.sameLatched) h.demand

/-! ### The recomputation -/

@[simp] theorem valued_ctl (s : State) (c : Chan) : s.valued.ctl c = s.ctl c := by
  unfold State.valued
  generalize tabulate s.demandNow = x
  rfl

@[simp] theorem valued_dem (s : State) (c : Chan) : s.valued.dem c = s.demandNow c := by
  simp only [State.valued, State.dem, look_tabulate]

theorem valued_queue (s : State) : s.valued.queue = s.queue := by
  unfold State.valued
  generalize tabulate s.demandNow = x
  rfl

theorem valued_admissionCounter (s : State) : s.valued.admissionCounter = s.admissionCounter := by
  unfold State.valued
  generalize tabulate s.demandNow = x
  rfl

theorem formulaic_valued (s : State) : Formulaic s.valued := fun c => by
  rw [((moves_valued s).demandsAs (.of_state fun c => by rw [valued_ctl])).demandNow, valued_dem]

/-- A recomputation brings the demand values to the formulas: what it hands on neither makes nor ends LATCHED. -/
theorem formulaic_recompute (s : State) : Formulaic s.recompute :=
  (bits_recompute s).formulaic (formulaic_valued s)

/-! ### Faults, grants and examinations -/

theorem faulted_latched (k : Controller) (f : ChannelConfig) (cause : FaultCause) :
    (k.faulted f cause).state = .latched ↔ f.retryLimit < k.retryCount + 1 := by
  unfold Controller.faulted
  dsimp only
  split <;> simp_all

/-- A fault that does not latch moves nothing that the formulas read; one that does recomputes. -/
theorem formulaic_fault {s : State} (hs : Formulaic s) (cause : FaultCause) {c : Chan}
    (hc : (s.ctl c).state.closed = true) : Formulaic (s.fault cause c) := by
  rw [fault_eq]
  split
  next => exact formulaic_recompute _
  next hx =>
    have ht := turns_faultOne cause (ChannelState.charged_of_closed hc)
    have hl : SameLatched s (s.faultOne cause c) := ht.sameLatched (by
      rw [faulted_latched]
      simp only [hx, false_iff]
      intro e
      rw [e] at hc
      cases hc)
    exact (bits_faultCascade s cause c).formulaic
      (hs.same ((moves_faultOne s cause c).demandsAs hl) ht.demand)

theorem Granted.sameLatched {s t : State} {c : Chan} {r : Rail} (h : Granted s t c r)
    (hc : (s.ctl c).state ≠ .latched) : SameLatched s t := fun j => by
  rw [h.ctl]
  split
  next e => subst e; simp [Controller.started, hc]
  next => rfl

theorem formulaic_grantEntry {s : State} (hs : Formulaic s) (hq : QueueLaw s) {e : QueueEntry} (he : e ∈ s.queue)
    (r : Rail) : Formulaic (s.grantEntry e.chan r) := by
  have hg := granted_grantEntry s e.chan r
  refine hs.same ((moves_grantEntry s e.chan r).demandsAs (hg.sameLatched ?_)) hg.demand
  rw [hq.queued he]
  simp

theorem formulaic_admitted {s : State} {live : Rail → Prop} (ha : Allocated live s) (hs : Formulaic s) {r : Rail}
    {e : QueueEntry} {v : List Charge} (he : s.candidate r = some e)
    (hv : s.victims r e.priority (s.cfg e.chan).classAU = some v) :
    Formulaic ((s.shed v).grantEntry e.chan r) :=
  formulaic_grantEntry ((bit_shed hv).bits.formulaic hs) (ha.bit (bit_shed hv)).queue
    (mem_queue_shed hv (candidate_spec he).1) r

/-! ### The rail loss -/

theorem formulaic_stop {s : State} (hs : Formulaic s) (cause : StopCause) {c : Chan}
    (hc : (s.ctl c).state.charged = true) : Formulaic (s.stop cause c) := (bits_stop cause hc).formulaic hs

theorem Moved.sameLatched {s t : State} {x : Charge} {new : Rail} (h : Moved s t x new)
    (hc : (s.ctl x.chan).state ≠ .latched) : SameLatched s t := fun j => by
  rw [h.ctl]
  split
  next e => subst e; simp [Controller.switched, hc]
  next => rfl

theorem ChannelState.ne_latched_of_charged {x : ChannelState} (h : x.charged = true) : x ≠ .latched := by
  rintro rfl; cases h

theorem moves_switchOne (s : State) (x : Charge) (lost new : Rail) : Moves s (s.switchOne x lost new) := by
  unfold State.switchOne State.moveCharge
  exact (((((moves_uncharge s _).trans (moves_charge _ _ _)).trans (moves_quiet _ _)).trans
    (moves_setCtl _ _ _)).trans (moves_reportChannel _ _ _))

theorem formulaic_takeLoss {s : State} {live : Rail → Prop} (ha : Allocated live s) (hs : Formulaic s) (lost : Rail)
    (x : LossEntry) : Formulaic (s.takeLoss lost x) := by
  rcases takeLoss_cases s lost x with ⟨-, e⟩ | ⟨hx, -, e⟩ | ⟨r, v, hx, hm, e⟩ <;> rw [e]
  · exact hs
  · exact formulaic_stop hs _ ((ha.core.charged _).2 ⟨lost, _, hx, rfl⟩)
  · obtain ⟨hne, -, -, hv⟩ := moveOf_eq_some hm
    have hshed := ha.bit (bit_shed hv)
    have hcharged := (hshed.core.charged _).2 ⟨lost, _, ha.core.stays_of_move hne hv hx, rfl⟩
    have hmoved := moved_switchOne (s.shed v) x.charge lost r
    exact (bits_enterSwitchover _ _ _ _).formulaic (((bit_shed hv).bits.formulaic hs).same
      ((moves_switchOne _ _ lost r).demandsAs (hmoved.sameLatched (ChannelState.ne_latched_of_charged hcharged)))
      hmoved.demand)

/-- Queue and accounts agree, whichever rails carry charges. -/
def Balanced (s : State) : Prop := Allocated (fun _ => True) s

theorem Allocated.balanced {live : Rail → Prop} {s : State} (h : Allocated live s) : Balanced s :=
  h.mono fun _ _ => trivial

theorem Balanced.lawful {s : State} (h : Balanced s) : Lawful (fun _ => True) (fun _ _ => True) s :=
  ⟨h, fun _ => trivial⟩

theorem Balanced.takeLoss {s : State} (h : Balanced s) (lost : Rail) (x : LossEntry) : Balanced (s.takeLoss lost x) :=
  (h.lawful.takeLoss rule_true (fun _ _ => trivial) lost x).alloc

theorem balanced_railDown {s : State} (h : Balanced s) (r : Rail) : Balanced (s.railDown r) :=
  h.of_core rfl rfl rfl rfl fun _ => rfl

theorem formulaic_loseRail {s : State} (ha : Balanced s) (hs : Formulaic s) (r : Rail) : Formulaic (s.loseRail r) := by
  have hdown : Formulaic (s.railDown r) :=
    hs.same ⟨fun _ => .refl _, fun _ _ => rfl, fun _ => rfl, fun _ => Iff.rfl⟩ rfl
  have hlist := foldl_keeps (P := fun t => Balanced t ∧ Formulaic t)
    (fun t x ht => ⟨ht.1.takeLoss r x, formulaic_takeLoss ht.1 ht.2 r x⟩) (s.lossList r)
    (s := s.railDown r) ⟨balanced_railDown ha r, hdown⟩
  rw [loseRail_eq]
  exact hlist.2.same ((moves_reportRail _ _).demandsAs fun _ => Iff.rfl) rfl

/-! ### Whole steps -/

theorem powerOperands_demandsAs {s : State} {ops : List Byte} {c : Chan} {f : ChannelConfig}
    (h : powerOperands s ops = some (c, f)) : SameDemandFields (s.cfg c) f := by
  unfold powerOperands at h
  split at h
  · simp only [Option.bind_eq_bind, Option.bind_eq_some_iff, Option.some.injEq, Prod.mk.injEq] at h
    obtain ⟨_, -, _, -, _, -, _, -, _, -, _, -, _, -, _, -, rfl, rfl⟩ := h
    exact ⟨rfl, rfl, rfl, rfl, rfl, rfl⟩
  · cases h

theorem faultOperands_demandsAs {s : State} {ops : List Byte} {c : Chan} {f : ChannelConfig}
    (h : faultOperands s ops = some (c, f)) : SameDemandFields (s.cfg c) f := by
  unfold faultOperands at h
  split at h
  · simp only [Option.bind_eq_bind, Option.bind_eq_some_iff, Option.some.injEq, Prod.mk.injEq] at h
    obtain ⟨_, -, _, -, _, -, _, -, _, -, _, -, rfl, rfl⟩ := h
    exact ⟨rfl, rfl, rfl, rfl, rfl, rfl⟩
  · cases h

theorem demandsAs_setCfg (s : State) {c : Chan} {f : ChannelConfig} (h : SameDemandFields (s.cfg c) f) :
    DemandsAs s (s.setCfg c f) := by
  refine ⟨fun j => ?_, fun _ _ => rfl, fun _ => rfl, fun _ => Iff.rfl⟩
  rw [State.cfg_setCfg_of]
  split
  next e => rw [e]; exact h
  next => exact .refl _

theorem Apart.demandsAs {s t : State} (h : Apart s t) : DemandsAs s t :=
  ⟨fun c => by rw [h.core.cfg]; exact .refl _, h.claims, h.lines, h.core.sameLatched⟩

theorem DemandsAs.of_state {s t : State} (hc : t.config = s.config) (hx : t.claims = s.claims)
    (he : t.enables = s.enables) (hl : SameLatched s t) : DemandsAs s t :=
  ⟨fun c => by rw [State.cfg, State.cfg, hc]; exact .refl _, fun c g => by rw [State.claimOf, State.claimOf, hx],
    fun k => by rw [State.line, State.line, he], hl⟩

theorem sameLatched_setCtl {s : State} {c : Chan} {k : Controller}
    (h : k.state = .latched ↔ (s.ctl c).state = .latched) : SameLatched s (s.setCtl c k) := fun j => by
  rw [State.ctl_setCtl_of]
  split
  next e => rw [e]; exact h
  next => rfl

theorem sameLatched_endWait {s : State} {c : Chan} (h : (s.ctl c).state ≠ .latched) :
    SameLatched s (s.endWait c) := fun j => by
  rw [endWait_ctl]
  split
  next e => subst e; simp [waitEnded_ne_latched, h]
  next => rfl

theorem limited_state (k : Controller) (f : ChannelConfig) : (k.limited f).state = k.state := rfl

/-- Every whole step keeps the demand values at the formulas. -/
theorem Whole.formulaic {s t : State} (hx : Whole s t) (ha : Balanced s) (hs : Formulaic s) : Formulaic t := by
  cases hx with
  | apart h => exact hs.same h.demandsAs h.core.demand
  | stands c k hk =>
    exact hs.same (.of_state rfl rfl rfl (sameLatched_setCtl (by rw [hk.state]))) rfl
  | on c hc =>
    have hl : SameLatched s (s.setCtl c (s.ctl c).entersOn) := sameLatched_setCtl (by simp [hc, Controller.entersOn])
    exact hs.same (.of_state rfl rfl rfl hl) rfl
  | started c hc =>
    exact hs.same (.of_state rfl rfl rfl (sameLatched_setCtl (by simp [hc, Controller.started]))) rfl
  | waited c hc =>
    refine hs.same ((moves_endWait s c).demandsAs (sameLatched_endWait ?_)) (endWait_demand s c)
    rcases hc with e | e <;> simp [e]
  | faulted cause c hc => exact formulaic_fault hs cause hc
  | admitted r e v he hv => exact formulaic_admitted ha hs he hv
  | railMoved r m _ => exact hs.same (.of_state rfl rfl rfl fun _ => Iff.rfl) rfl
  | railLost r _ => exact formulaic_loseRail ha hs r
  | recomputed hx => exact formulaic_recompute _
  | powerSet ops c f hf _ => exact hs.same (demandsAs_setCfg s (powerOperands_demandsAs hf)) rfl
  | faultSet ops c f hf _ =>
    rw [applyRetryLimit_setCfg]
    have hcfg : Formulaic (s.setCfg c f) := hs.same (demandsAs_setCfg s (faultOperands_demandsAs hf)) rfl
    exact hcfg.same (.of_state rfl rfl rfl (sameLatched_setCtl Iff.rfl)) rfl
  | viewSet g l e => exact hs.same ⟨fun _ => .refl _, fun _ _ => rfl, fun _ => rfl, fun _ => Iff.rfl⟩ rfl
  | railSet r x _ => exact hs.same ⟨fun _ => .refl _, fun _ _ => rfl, fun _ => rfl, fun _ => Iff.rfl⟩ rfl

/-- The examinations after an event, over a law that draws, whole grants and whole faults keep together with the law
of the queue and the accounts. -/
theorem balanced_settle {before after : State} (h : Balanced after) : Balanced (State.settle before after) :=
  (h.lawful.acts rule_true (acts_settle _ _) fun _ _ => trivial).alloc

theorem formulaic_settle {before after : State} (ha : Balanced after) (hs : Formulaic after) :
    Formulaic (State.settle before after) := by
  have hact {s t : State} (hx : Acts s t) (h : Balanced s) : Balanced t :=
    (h.lawful.acts rule_true hx fun _ _ => trivial).alloc
  refine (settle_keeps (P := fun t => Balanced t ∧ Formulaic t) (fun n h => ?_) (fun he hv h => ?_)
    (fun cause c hc h => ?_) ⟨ha, hs⟩).2
  · exact ⟨h.1.same (sameCore_draw _ n), h.2.same (apart_draw _ n).demandsAs rfl⟩
  · exact ⟨hact (acts_admitted he hv) h.1, formulaic_admitted h.1 h.2 he hv⟩
  · exact ⟨hact (acts_fault cause hc) h.1, formulaic_fault h.2 cause hc⟩

theorem balanced_recompute {s : State} (h : Balanced s) : Balanced s.recompute :=
  (h.lawful.acts rule_true (acts_recompute s) fun _ _ => trivial).alloc

end Sys2Proof.Machine
end

section
/-! PROOFS. The demand items and the priorities in the queue: a recomputation hands every change on, once. -/

namespace Sys2Proof.Machine

/-! ### A free order that comes to its end -/

/-- Where one of the members left can always be taken, all are taken, each once. -/
theorem inFreeOrder_drains {α : Type} [DecidableEq α] {P : List α → State → Prop} {ready : List α → List α}
    {f : α → State → State} (hready : ∀ l, ∀ x ∈ ready l, x ∈ l) (hne : ∀ l, l ≠ [] → ready l ≠ [])
    (hf : ∀ l x t, x ∈ l → P l t → P (l.erase x) (f x t))
    (hd : ∀ l t, P l t → P l { t with draws := t.draws + 1 }) :
    ∀ (n : Nat) (l : List α) (s : State), l.length ≤ n → P l s → P [] (inFreeOrder ready f n l s)
  | 0, l, s, hl, hs => by
    rw [List.length_eq_zero_iff.1 (Nat.le_zero.1 hl)] at hs
    exact hs
  | n + 1, l, s, hl, hs => by
    unfold inFreeOrder
    cases hp : pick (ready l) s with
    | none =>
      have hempty : ready l = [] := by
        have h := pick_isSome (ready l) s
        rw [hp] at h
        simpa using h.symm
      have hnil : l = [] := by
        by_contra hx
        exact hne l hx hempty
      rwa [hnil] at hs
    | some r =>
      obtain ⟨x, t⟩ := r
      obtain ⟨hx, ht⟩ := pick_spec hp
      have hmem := hready l x hx
      refine inFreeOrder_drains hready hne hf hd n _ _ ?_ (hf l x t hmem ?_)
      · rw [List.length_erase_of_mem hmem]
        omega
      · rcases ht with e | e <;> subst e
        · exact hs
        · exact hd _ _ hs

theorem lowest_subset (s : State) (l : List Chan) : ∀ x ∈ s.lowest l, x ∈ l := fun _ hx => (List.mem_filter.1 hx).1

/-- In a forest some channel of a list has no descendant in it: one of the deepest (R15). -/
theorem lowest_ne_nil {s : State} (hf : ForestLaw s.config) {l : List Chan} (hl : l ≠ []) : s.lowest l ≠ [] := by
  obtain ⟨depth, hd⟩ := (forestLaw_iff s).1 hf
  obtain ⟨c, hc, hmax⟩ := l.toFinset.exists_max_image depth (List.toFinset_nonempty_iff l |>.2 hl)
  refine List.ne_nil_of_mem (a := c) (List.mem_filter.2 ⟨List.mem_toFinset.1 hc, List.all_eq_true.2 fun k hk => ?_⟩)
  simp only [Bool.not_eq_true', List.contains_eq_mem, decide_eq_false_iff_not, mem_ancestors]
  rintro ⟨m, -, hm⟩
  have := hd.above hm
  have := hmax k (List.mem_toFinset.2 hk)
  omega

/-! ### The demand items -/

/-- The controller's demand item is its channel's effective demand (R49). -/
def ItemAt (s : State) (c : Chan) : Prop := (s.ctl c).demand = (s.dem c).effective

def Itemized (s : State) : Prop := ∀ c, ItemAt s c

theorem demandLaw_iff (s : State) : DemandLaw s ↔ Formulaic s ∧ Itemized s :=
  ⟨fun h => ⟨fun c => (h c).1, fun c => (h c).2⟩, fun h c => ⟨h.1 c, h.2 c⟩⟩

@[simp] theorem rested_demand (k : Controller) (f : ChannelConfig) : (k.rested f).demand = k.demand := rfl

@[simp] theorem waitEnded_demand (k : Controller) (f : ChannelConfig) : (k.waitEnded f).demand = k.demand := by
  unfold Controller.waitEnded
  split <;> rfl

@[simp] theorem stopped_demand (k : Controller) (f : ChannelConfig) : (k.stopped f).demand = k.demand := by
  unfold Controller.stopped
  split
  · rw [waitEnded_demand]; rfl
  · rfl

@[simp] theorem abandoned_demand (k : Controller) (f : ChannelConfig) : (k.abandoned f).demand = k.demand := by
  unfold Controller.abandoned
  split <;> rfl

@[simp] theorem arrived_demand (k : Controller) (f : ChannelConfig) : (k.arrived f).demand = true := rfl

@[simp] theorem lost_demand (k : Controller) (f : ChannelConfig) : (k.lost f).demand = false := by
  unfold Controller.lost
  split
  · rfl
  · rw [stopped_demand]
  · rw [stopped_demand]
  · rw [stopped_demand]
  · rw [abandoned_demand]
  all_goals rfl

/-- The item of a channel after a step: as it was, or as the effective demand is. -/
def ItemKept (s t : State) : Prop := ∀ c, ItemAt t c ∨ (t.ctl c).demand = (s.ctl c).demand

theorem ItemKept.itemAt {s t : State} (h : ItemKept s t) (hd : t.demand = s.demand) {c : Chan} (hs : ItemAt s c) :
    ItemAt t c := by
  rcases h c with e | e
  · exact e
  · rw [ItemAt, e, hs, State.dem, State.dem, hd]

theorem ItemKept.refl (s : State) : ItemKept s s := fun _ => .inr rfl

theorem ItemKept.trans {s t u : State} (h : ItemKept s t) (k : ItemKept t u) (hd : u.demand = t.demand) :
    ItemKept s u := fun c => by
  rcases k c with e | e
  · exact .inl e
  · rcases h c with e' | e'
    · refine .inl ?_
      rw [ItemAt, e, e', State.dem, State.dem, hd]
    · exact .inr (e.trans e')

theorem Turns.itemKept {s t : State} {c : Chan} {k : Controller} (h : Turns s t c k)
    (hk : k.demand = (s.ctl c).demand ∨ k.demand = (s.dem c).effective) : ItemKept s t := fun j => by
  by_cases hj : j = c
  · subst hj
    rw [ItemAt, h.ctl_self, h.dem]
    exact hk.symm
  · exact .inr (by rw [h.ctl_ne hj])

theorem itemKept_stopOne (s : State) (cause : StopCause) (c : Chan) : ItemKept s (s.stopOne cause c) := fun j => by
  right
  rw [stopOne_ctl]
  split
  next e => rw [stopped_demand, e]
  next => rfl

theorem itemKept_stops (v : List Charge) (s : State) :
    ItemKept s (v.foldl (fun t x => t.stopOne .shed x.chan) s) :=
  foldl_keeps (P := ItemKept s)
    (fun t _ ht => ht.trans (itemKept_stopOne t _ _) (stopOne_demand t _ _)) v (.refl s)

/-- An arrival comes to a channel with effective demand, a loss to one without. -/
theorem Bit.itemKept {s t : State} (h : Bit s t) : ItemKept s t := by
  cases h with
  | draw n => exact .refl s
  | arrived c he => exact (turns_demandArrival s c).itemKept (.inr (by rw [he]; rfl))
  | lost c hc he => exact (turns_demandLoss hc).itemKept (.inr (by rw [he, lost_demand]))
  | released c hc he =>
    refine (turns_released hc).itemKept (.inr ?_)
    rw [he, stopped_demand]
    rfl
  | reprioritized c => exact fun j => .inr (by rw [reprioritize_ctl])
  | stopped cause c _ => exact itemKept_stopOne s cause c
  | shed r v _ _ => exact itemKept_stops v s

theorem Bits.itemKept {s t : State} (h : Bits s t) : ItemKept s t := by
  induction h with
  | refl => exact .refl s
  | tail _ hb ih => exact ih.trans hb.itemKept hb.demand

theorem Bits.itemized {s t : State} (h : Bits s t) (hs : Itemized s) : Itemized t :=
  fun c => h.itemKept.itemAt h.demand (hs c)

/-- A change of effective demand handed on reaches the item. -/
theorem itemAt_handOn {s : State} {old : Demand} {c : Chan} (h : old.effective ≠ (s.dem c).effective) :
    ItemAt (s.handOn old c) c := by
  have hd := (bits_handOn s old c).demand
  have hdem : (s.handOn old c).dem c = s.dem c := by rw [State.dem, State.dem, hd]
  rw [ItemAt, hdem]
  unfold State.handOn
  split
  next hn =>
    rw [(turns_demandArrival s c).ctl_self, hn]
    rfl
  next hn =>
    by_cases hc : (s.ctl c).state.charged = true
    · have hstop := turns_released hc
      have hbits : Bits ((s.setCtl c (s.ctl c).itemless).stopOne .released c) (s.demandLoss c) := by
        rw [demandLoss_of_charged hc]
        exact bits_stopTree _ _ _ _
      have hitem : ItemAt ((s.setCtl c (s.ctl c).itemless).stopOne .released c) c := by
        rw [ItemAt, hstop.ctl_self, hstop.dem, hn, stopped_demand]
        rfl
      have hkept := hbits.itemKept.itemAt hbits.demand hitem
      rw [ItemAt, State.dem, hbits.demand] at hkept
      rw [hkept]
      exact congrArg Demand.effective (hstop.dem c)
    · rw [(turns_demandLoss (by simpa using hc)).ctl_self, hn, lost_demand]
  next ho hn => rw [ho, hn] at h; exact absurd rfl h
  next ho hn => rw [ho, hn] at h; exact absurd rfl h

theorem mem_todo (s : State) (c : Chan) : c ∈ s.todo ↔ (s.dem c).changed (s.demandNow c) = true := by
  simp [State.todo]

theorem todo_nodup (s : State) : s.todo.Nodup := allChans_nodup.filter _

theorem changed_of_effective_ne {old new : Demand} (h : old.effective ≠ new.effective) : old.changed new = true := by
  simp [Demand.changed, h]

/-- A recomputation in a forest brings a channel's item to its effective demand. -/
theorem itemAt_recompute {s : State} (hf : ForestLaw s.config) {c : Chan} (hs : ItemAt s c) :
    ItemAt s.recompute c := by
  rw [recompute_eq]
  let P (l : List Chan) (u : State) : Prop := u.demand = s.valued.demand ∧
    (ItemAt u c ∨ c ∈ l ∧ (s.dem c).effective ≠ (s.demandNow c).effective)
  have hdem {u : State} (h : u.demand = s.valued.demand) : u.dem c = s.demandNow c := by
    rw [State.dem, h]
    exact valued_dem s c
  have hstart : P s.todo s.valued := by
    refine ⟨rfl, ?_⟩
    by_cases he : (s.dem c).effective = (s.demandNow c).effective
    · left
      rw [ItemAt, valued_ctl, valued_dem, ← he]
      exact hs
    · exact .inr ⟨(mem_todo s c).2 (changed_of_effective_ne he), he⟩
  have hend := inFreeOrder_drains (P := P) (lowest_subset s) (fun l hl => lowest_ne_nil hf hl)
    (f := fun c u => u.handOn (s.dem c) c) (fun l x t hx ht => ?step) (fun l t ht => ?draw) s.todo.length s.todo
    s.valued (Nat.le_refl _) hstart
  case step =>
    obtain ⟨hd, hitem⟩ := ht
    have hbits := bits_handOn t (s.dem x) x
    refine ⟨hbits.demand.trans hd, ?_⟩
    rcases hitem with hi | ⟨hc, he⟩
    · exact .inl (hbits.itemKept.itemAt hbits.demand hi)
    · by_cases hcx : c = x
      · subst hcx
        exact .inl (itemAt_handOn (by rwa [hdem hd]))
      · exact .inr ⟨(List.mem_erase_of_ne hcx).2 hc, he⟩
  case draw => exact ht
  rcases hend.2 with h | ⟨h, -⟩
  · exact h
  · cases h

theorem itemized_recompute {s : State} (hf : ForestLaw s.config) (hs : Itemized s) : Itemized s.recompute :=
  fun c => itemAt_recompute hf (hs c)

/-! ### The priorities in the queue -/

/-- A queue entry carries the effective priority in force (R28, R32). -/
def Ranked (s : State) : Prop := ∀ e ∈ s.queue, e.priority = (s.dem e.chan).priority

/-- Every entry stood there before, or carries the priority in force. -/
def EntriesKept (s t : State) : Prop := ∀ e ∈ t.queue, e ∈ s.queue ∨ e.priority = (s.dem e.chan).priority

theorem EntriesKept.refl (s : State) : EntriesKept s s := fun _ he => .inl he

theorem EntriesKept.trans {s t u : State} (h : EntriesKept s t) (k : EntriesKept t u) (hd : t.demand = s.demand) :
    EntriesKept s u := fun e he => by
  rcases k e he with hx | hx
  · exact h e hx
  · right
    rw [hx, State.dem, State.dem, hd]

theorem EntriesKept.of_same {s t : State} (h : t.queue = s.queue) : EntriesKept s t := fun e he => by
  rw [h] at he
  exact .inl he

theorem EntriesKept.ranked {s t : State} (h : EntriesKept s t) (hd : t.demand = s.demand) (hs : Ranked s) : Ranked t :=
  fun e he => by
    have hdem : t.dem e.chan = s.dem e.chan := by rw [State.dem, State.dem, hd]
    rw [hdem]
    rcases h e he with hx | hx
    · exact hs e hx
    · exact hx

theorem Turns.entriesKept {s t : State} {c : Chan} {k : Controller} (h : Turns s t c k) : EntriesKept s t :=
  fun e he => by
    rw [h.queue, State.requeued] at he
    split at he
    · split at he
      · exact .inl he
      · rcases (mem_insertBy _ _ _ _).1 he with rfl | he
        · exact .inr rfl
        · exact .inl he
    · split at he
      · exact .inl (List.mem_filter.1 he).1
      · exact .inl he

theorem entriesKept_enqueue (s : State) (c : Chan) : EntriesKept s (s.enqueue c) := fun e he => by
  rcases (mem_insertBy _ _ _ _).1 he with rfl | he
  · exact .inr rfl
  · exact .inl he

/-- A first part that leaves queue and demand values. -/
theorem EntriesKept.after {s t u : State} (k : EntriesKept t u) (hq : t.queue = s.queue) (hd : t.demand = s.demand) :
    EntriesKept s u := (EntriesKept.of_same hq).trans k hd

theorem entriesKept_enterQueued (s : State) (c : Chan) : EntriesKept s (s.enterQueued c) :=
  (entriesKept_enqueue (s.setCtl c { s.ctl c with state := .queued }) c).after rfl rfl

theorem entriesKept_enterOff (s : State) (c : Chan) : EntriesKept s (s.enterOff c) := by
  unfold State.enterOff
  dsimp only
  split
  · exact (entriesKept_enterQueued _ c).after rfl rfl
  · exact .of_same rfl

theorem entriesKept_endWait (s : State) (c : Chan) : EntriesKept s (s.endWait c) := by
  unfold State.endWait
  split
  · exact entriesKept_enterQueued s c
  · exact entriesKept_enterOff s c

theorem entriesKept_stopOne (s : State) (cause : StopCause) (c : Chan) : EntriesKept s (s.stopOne cause c) := by
  unfold State.stopOne
  dsimp only
  refine EntriesKept.trans ?_ (.of_same (sameCore_reportChannel _ _ _).queue) ?_
  · split
    · exact (entriesKept_endWait _ c).after rfl rfl
    · exact .of_same rfl
  · split
    · exact endWait_demand _ c
    · rfl

theorem Bit.entriesKept {s t : State} (h : Bit s t) : EntriesKept s t := by
  rcases h.cases_turns with h | ⟨c, rfl⟩ | ⟨c, k, ht, -⟩ | ⟨r, v, -, -, rfl⟩
  · exact .of_same h.queue
  · rcases reprioritize_cases s c with ⟨hr, -⟩ | ⟨x, -, hx, hr⟩ <;> rw [hr]
    · exact .refl s
    · intro e he
      rcases (mem_insertBy _ _ _ _).1 he with rfl | he
      · exact .inr (by rw [hx])
      · exact .inl (List.mem_filter.1 he).1
  · exact ht.entriesKept
  · exact (foldl_keeps (P := fun t => EntriesKept s t ∧ t.demand = s.demand)
      (fun t x ht => ⟨ht.1.trans (entriesKept_stopOne t _ _) ht.2, (stopOne_demand t _ _).trans ht.2⟩) v
      ⟨.refl s, rfl⟩).1

theorem Bits.entriesKept {s t : State} (h : Bits s t) : EntriesKept s t :=
  (h.keeps (P := fun t => EntriesKept s t ∧ t.demand = s.demand)
    (fun hb h => ⟨h.1.trans hb.entriesKept h.2, hb.demand.trans h.2⟩) ⟨.refl s, rfl⟩).1

theorem Bits.ranked {s t : State} (h : Bits s t) (hs : Ranked s) : Ranked t := h.entriesKept.ranked h.demand hs

theorem lost_ne_queued (k : Controller) (f : ChannelConfig) : (k.lost f).state ≠ .queued := by
  have hrest (k : Controller) (h : k.demand = false) : (k.rested f).state ≠ .queued := by
    simp [Controller.rested, Controller.wantedBy, h]
  by_cases hc : k.state.charged = true
  · rw [lost_of_charged f hc, Controller.stopped]
    split
    · rw [Controller.waitEnded, if_neg (by simp [Controller.wantedBy, Controller.halted, Controller.itemless])]
      exact hrest _ rfl
    · simp [Controller.halted]
  by_cases hq : k.state = .queued
  · rw [lost_of_queued f hq]
    exact hrest _ rfl
  by_cases hr : k.state = .retryWait
  · rw [lost_of_retryWait f hr, Controller.abandoned]
    split
    · simp
    · exact hrest _ rfl
  · rw [lost_of_idle f hq hr (by simpa using hc)]
    exact hq

/-- After a loss no entry of the channel is left from before. -/
theorem entries_demandLoss {s : State} (hq : QueueLaw s) {c : Chan} (he : (s.dem c).effective = false)
    {e : QueueEntry} (hmem : e ∈ (s.demandLoss c).queue) (hc : e.chan = c) :
    e.priority = (s.dem e.chan).priority := by
  have hno (h : (s.ctl c).state ≠ .queued) (x : QueueEntry) (hx : x ∈ s.queue) : x.chan ≠ c := fun e =>
    h ((hq.1 c).2 ⟨x, hx, e⟩)
  by_cases hcharged : (s.ctl c).state.charged = true
  · have hkept := (bits_demandLoss he).entriesKept e hmem
    rcases hkept with h | h
    · exact absurd hc (hno (ChannelState.ne_queued_of_charged hcharged) e h)
    · exact h
  · have ht := turns_demandLoss (s := s) (c := c) (by simpa using hcharged)
    rw [ht.queue, State.requeued, if_neg (lost_ne_queued _ _)] at hmem
    split at hmem
    · have := (List.mem_filter.1 hmem).2
      simp [hc] at this
    next hx => exact absurd hc (hno hx e hmem)

/-- What a hand-on leaves of the entries of its channel: the priority in force, or one that has not changed. -/
theorem entries_handOn {s : State} (hq : QueueLaw s) {old : Demand} {c : Chan} {e : QueueEntry}
    (hold : ∀ e ∈ s.queue, e.chan = c → e.priority = (s.dem c).priority ∨
      old.effective = true ∧ e.priority = old.priority)
    (hmem : e ∈ (s.handOn old c).queue) (hc : e.chan = c) : e.priority = (s.dem c).priority := by
  have hfresh (ho : old.effective = false) (hx : e ∈ s.queue ∨ e.priority = (s.dem e.chan).priority) :
      e.priority = (s.dem c).priority := by
    rcases hx with hx | hx
    · rcases hold e hx hc with h | ⟨h, -⟩
      · exact h
      · rw [ho] at h; cases h
    · rw [hx, hc]
  have hkept := (bits_handOn s old c).entriesKept e hmem
  unfold State.handOn at hmem
  split at hmem
  next ho _ => exact hfresh ho hkept
  next hn =>
    rw [← hc]
    exact entries_demandLoss hq hn hmem hc
  next ho hn =>
    split at hmem
    next hp =>
      rcases hold e hmem hc with h | ⟨-, h⟩
      · exact h
      · rw [h, hp]
    next =>
      rcases reprioritize_cases s c with ⟨hr, hnone⟩ | ⟨x, -, -, hr⟩
      · rw [hr] at hmem
        exact absurd hc (hnone e hmem)
      · rw [hr] at hmem
        rcases (mem_insertBy _ _ _ _).1 hmem with rfl | hmem
        · rfl
        · have := (List.mem_filter.1 hmem).2
          simp [hc] at this
  next ho _ => exact hfresh ho hkept

/-- A recomputation in a forest moves every entry to the priority in force, where only channels with demand had
one. -/
theorem ranked_recompute {s : State} (hf : ForestLaw s.config) (ha : Balanced s)
    (hs : ∀ e ∈ s.queue, (s.dem e.chan).effective = true ∧ e.priority = (s.dem e.chan).priority) :
    Ranked s.recompute := by
  rw [recompute_eq]
  let P (l : List Chan) (u : State) : Prop := l.Nodup ∧ Balanced u ∧ u.demand = s.valued.demand ∧
    ∀ e ∈ u.queue, e.priority = (s.demandNow e.chan).priority ∨
      e.chan ∈ l ∧ (s.dem e.chan).effective = true ∧ e.priority = (s.dem e.chan).priority
  have hdem {u : State} (h : u.demand = s.valued.demand) (c : Chan) : u.dem c = s.demandNow c := by
    rw [State.dem, h]
    exact valued_dem s c
  have hstart : P s.todo s.valued := by
    refine ⟨todo_nodup s, ha.valued, rfl, fun e he => ?_⟩
    rw [valued_queue] at he
    obtain ⟨he1, he2⟩ := hs e he
    by_cases hx : e.chan ∈ s.todo
    · exact .inr ⟨hx, he1, he2⟩
    · left
      rw [mem_todo, Demand.changed, he1] at hx
      simp only [ne_eq, Bool.or_eq_true, decide_eq_true_eq, Bool.and_eq_true, not_or, not_and, not_not] at hx
      rw [he2, hx.2 hx.1.symm]
  have hend := inFreeOrder_drains (P := P) (lowest_subset s) (fun l hl => lowest_ne_nil hf hl)
    (f := fun c u => u.handOn (s.dem c) c) (fun l x t hx ht => ?step) (fun l t ht => ?draw) s.todo.length s.todo
    s.valued (Nat.le_refl _) hstart
  case step =>
    obtain ⟨hn, hb, hd, hentries⟩ := ht
    have hbits := bits_handOn t (s.dem x) x
    refine ⟨hn.erase x, hb.bits hbits, hbits.demand.trans hd, fun e he => ?_⟩
    by_cases hex : e.chan = x
    · left
      rw [← hdem hd, hex]
      refine entries_handOn hb.queue (fun y hy hyx => ?_) he hex
      rcases hentries y hy with h | ⟨-, h1, h2⟩
      · left; rw [h, hdem hd, hyx]
      · right; rw [← hyx]; exact ⟨h1, h2⟩
    · rcases hbits.entriesKept e he with h | h
      · rcases hentries e h with h | ⟨h1, h2, h3⟩
        · exact .inl h
        · exact .inr ⟨(List.mem_erase_of_ne hex).2 h1, h2, h3⟩
      · exact .inl (by rw [h, hdem hd])
  case draw => exact ⟨ht.1, ht.2.1.same (sameCore_draw _ _), ht.2.2.1, ht.2.2.2⟩
  intro e he
  rw [hdem hend.2.2.1]
  rcases hend.2.2.2 e he with h | ⟨h, -⟩
  · exact h
  · cases h

end Sys2Proof.Machine
end

section
/-! PROOFS. The laws of demand over every step: items, priorities in the queue, and who may wait and run. -/

namespace Sys2Proof.Machine

/-! ### Who may wait and run -/

/-- A channel that waits, runs or is to be retried is ENABLED and has its demand item; an ENABLED one in OFF has
none (R28, R54 to R56, R68, R105). -/
def WantRule (f : ChannelConfig) (k : Controller) : Prop :=
  (k.state = .queued ∨ k.state = .retryWait ∨ k.state.charged = true → f.admin = .enabled ∧ k.demand = true) ∧
  (k.state = .off → f.admin = .enabled → k.demand = false)

/-- In the remaining states the rule asks nothing. -/
theorem WantRule.of_idle {f : ChannelConfig} {k : Controller}
    (h : k.state = .retired ∨ k.state = .stopping ∨ k.state = .latched) : WantRule f k := by
  refine ⟨fun hx => ?_, fun hx => ?_⟩ <;> rcases h with e | e | e <;> simp [e, ChannelState.charged] at hx

theorem wantRule_rested (f : ChannelConfig) (k : Controller) : WantRule f (k.rested f) := by
  by_cases hw : k.wantedBy f = true
  · have hs : (k.rested f).state = .queued := by simp [Controller.rested, hw]
    have hx := hw
    simp only [Controller.wantedBy, Bool.and_eq_true, decide_eq_true_eq] at hx
    exact ⟨fun _ => ⟨hx.2, hx.1⟩, fun ho => by rw [hs] at ho; cases ho⟩
  · have hs : (k.rested f).state = .off := by simp [Controller.rested, hw]
    refine ⟨fun hx => by simp [hs, ChannelState.charged] at hx, fun _ ha => ?_⟩
    simpa [Controller.wantedBy, ha] using hw

theorem wantRule_waitEnded (f : ChannelConfig) (k : Controller) : WantRule f (k.waitEnded f) := by
  unfold Controller.waitEnded
  split
  next hw =>
    simp only [Controller.wantedBy, Bool.and_eq_true, decide_eq_true_eq] at hw
    exact ⟨fun _ => ⟨hw.2, hw.1⟩, nofun⟩
  next => exact wantRule_rested f k

theorem wantRule_stopped (f : ChannelConfig) (k : Controller) : WantRule f (k.stopped f) := by
  unfold Controller.stopped
  split
  · exact wantRule_waitEnded f _
  · exact .of_idle (.inr (.inl rfl))

theorem wantRule_abandoned (f : ChannelConfig) (k : Controller) : WantRule f (k.abandoned f) := by
  unfold Controller.abandoned
  split
  · exact .of_idle (.inr (.inl rfl))
  · exact wantRule_rested f _

theorem WantRule.arrived {f : ChannelConfig} {k : Controller} (h : WantRule f k) : WantRule f (k.arrived f) := by
  by_cases ho : k.state = .off ∧ f.admin = .enabled
  · have hs : (k.arrived f).state = .queued := by simp [Controller.arrived, ho]
    exact ⟨fun _ => ⟨ho.2, rfl⟩, fun hx => by rw [hs] at hx; cases hx⟩
  · have hs : (k.arrived f).state = k.state := by simp [Controller.arrived, ho]
    refine ⟨fun hx => ⟨(h.1 (by rwa [hs] at hx)).1, rfl⟩, fun hx ha => ?_⟩
    exact absurd ⟨by rwa [hs] at hx, ha⟩ ho

theorem wantRule_lost (f : ChannelConfig) (k : Controller) : WantRule f (k.lost f) := by
  by_cases hc : k.state.charged = true
  · rw [lost_of_charged f hc]
    exact wantRule_stopped f _
  by_cases hq : k.state = .queued
  · rw [lost_of_queued f hq]
    exact wantRule_rested f _
  by_cases hr : k.state = .retryWait
  · rw [lost_of_retryWait f hr]
    exact wantRule_abandoned f _
  · rw [lost_of_idle f hq hr (by simpa using hc)]
    refine ⟨fun hx => ?_, fun _ _ => rfl⟩
    rcases hx with e | e | e
    · exact absurd e hq
    · exact absurd e hr
    · exact absurd e hc

/-- In a running state the rule asks record and item alone. -/
theorem WantRule.of_running {f : ChannelConfig} {k k' : Controller} (h : WantRule f k)
    (hk : k.state = .queued ∨ k.state = .retryWait ∨ k.state.charged = true) (hd : k'.demand = k.demand)
    (ho : k'.state ≠ .off) : WantRule f k' :=
  ⟨fun _ => by rw [hd]; exact h.1 hk, fun e => absurd e ho⟩

theorem wantRule_putHeld {g : ChannelConfig} (k : Controller) (hg : g.admin = .held) :
    WantRule g (k.putHeld g) := by
  unfold Controller.putHeld
  split
  · exact wantRule_rested g k
  · exact wantRule_stopped g k
  · exact wantRule_stopped g k
  · exact wantRule_stopped g k
  · exact wantRule_abandoned g k
  · exact .of_idle (.inl (by assumption))
  next ho =>
    refine ⟨fun hx => by simp [ho, ChannelState.charged] at hx, fun _ ha => ?_⟩
    rw [hg] at ha
    cases ha
  · exact .of_idle (.inr (.inl (by assumption)))
  · exact .of_idle (.inr (.inr (by assumption)))

/-- A record that becomes ENABLED: who waits or runs was ENABLED before. -/
theorem WantRule.enabled {f g : ChannelConfig} {k : Controller} (h : WantRule f k) (hf : f.admin ≠ .enabled)
    (ho : k.state = .off → k.demand = false) : WantRule g k :=
  ⟨fun hx => absurd (h.1 hx).1 hf, fun hx _ => ho hx⟩

theorem WantRule.putUnheld {f g : ChannelConfig} {k : Controller} (h : WantRule f k) (hf : f.admin = .held)
    (hg : g.admin = .enabled) : WantRule g (k.putUnheld g) := by
  unfold Controller.putUnheld
  split
  next hx =>
    have hd : k.demand = true := by
      have := hx.2
      simp only [Controller.wantedBy, Bool.and_eq_true] at this
      exact this.1
    exact ⟨fun _ => ⟨hg, hd⟩, nofun⟩
  next hx =>
    refine WantRule.enabled (k := k) h (by simp [hf]) fun ho => ?_
    simpa [ho, Controller.wantedBy, hg] using hx

theorem WantRule.putRestored {f g : ChannelConfig} {k : Controller} (h : WantRule f k) (hf : f.admin = .retired)
    (hd : k.demand = false) : WantRule g (k.putRestored g) := by
  unfold Controller.putRestored
  split
  · split
    · exact .of_idle (.inr (.inl rfl))
    · exact wantRule_rested g k
  · exact h.enabled (by simp [hf]) fun _ => hd

theorem rule_want : Rule WantRule fun f k => f.admin = .retired → k.demand = false where
  turned {f k _} h ht := by
    cases ht with
    | arrived => exact h.arrived
    | lost => exact wantRule_lost f k
    | stopped _ => exact wantRule_stopped f k
  faulted {f k} cause h hc := by
    refine h.of_running (.inr (.inr (ChannelState.charged_of_closed hc))) rfl ?_
    unfold Controller.faulted
    dsimp only
    split <;> simp
  granted _ _ h hq := h.of_running (.inl hq) rfl (by simp [Controller.started])
  started h hs := h.of_running (.inr (.inr (by rw [hs]; rfl))) rfl (by simp [Controller.started])
  switched _ h hc := h.of_running (.inr (.inr hc)) rfl (by simp [Controller.switched])
  entersOn h hs := h.of_running (.inr (.inr (by rw [hs]; rfl))) rfl (by simp [Controller.entersOn])
  stands h hk := by
    unfold WantRule at *
    rwa [hk.state, hk.demand]
  waited {f k} _ _ := wantRule_waitEnded f k
  unlatched {f k} _ _ := by
    unfold Controller.unlatched
    split
    · exact .of_idle (.inr (.inl rfl))
    · exact wantRule_rested f _
  held {_ k} _ _ := wantRule_putHeld k rfl
  unheld h hf := h.putUnheld hf rfl
  retired {f k} _ hc := by
    unfold Controller.putRetired
    split
    · exact .of_idle (.inl rfl)
    next hx =>
      refine .of_idle (.inl ?_)
      cases hs : k.state <;> simp_all [ChannelState.configurable]
  restored h hr hf := h.putRestored hf (hr hf)
  rewritten h ha _ := by
    unfold WantRule at *
    rwa [ha]
  limited h _ ha := by
    unfold WantRule at *
    rwa [ha]
  loaded f := by
    rcases Controller.atLoad_state f with e | e | e
    · exact .of_idle (.inl e)
    · exact ⟨fun hx => by simp [e, ChannelState.charged] at hx, fun _ _ => rfl⟩
    · exact .of_idle (.inr (.inl e))
  reset := .of_idle (.inr (.inl rfl))

/-! ### The forest over whole steps -/

theorem Rough.forest {s t : State} (h : Rough s t) (hf : ForestLaw s.config) : ForestLaw t.config := by
  have adminSet (c : Chan) (x : Admin) (hx : x ≠ .retired) : ForestLaw (s.setAdmin c x).config :=
    forest_setCfg hf rfl fun e => absurd e hx
  cases h with
  | inputs hb => rw [hb.core.config]; exact hf
  | unlatched c _ => rw [(moves_unlatch s c).kept.config]; exact hf
  | held c _ => rw [(moves_controllerHold _ c).kept.config]; exact adminSet c .held (by decide)
  | unheld c _ => rw [(moves_controllerUnhold _ c).kept.config]; exact adminSet c .enabled (by decide)
  | restored c _ => rw [(moves_controllerRestore _ c).kept.config]; exact adminSet c .enabled (by decide)
  | retired c _ hch _ hb =>
    rw [hb.core.config, (moves_controllerRetire _ c).kept.config]
    exact forest_setCfg hf rfl fun _ => .inr hch
  | policySet ops c f hops _ hp hb =>
    rw [hb.core.config]
    exact forest_of_parentAllowed hf (policyOperands_admin hops) hp

theorem forest_setCfg_same {s : State} (hf : ForestLaw s.config) {c : Chan} {f : ChannelConfig}
    (h : SameDemandFields (s.cfg c) f) : ForestLaw (s.setCfg c f).config :=
  forest_setCfg hf h.parent fun e => .inl (by rw [← h.admin, e])

theorem Whole.forest {s t : State} (h : Whole s t) (hf : ForestLaw s.config) : ForestLaw t.config := by
  cases h with
  | apart ha => rw [ha.core.config]; exact hf
  | stands c k _ => exact hf
  | on c _ => exact hf
  | started c _ => exact hf
  | waited c _ => rw [(moves_endWait s c).kept.config]; exact hf
  | faulted cause c _ => rw [(moves_fault s cause c).kept.config]; exact hf
  | admitted r e v _ _ => rw [((moves_shed s v).trans (moves_grantEntry _ _ r)).kept.config]; exact hf
  | railMoved r m _ => exact hf
  | railLost r _ => rw [(moves_loseRail s r).kept.config]; exact hf
  | recomputed hx => rw [(moves_recompute _).kept.config]; exact hx.forest hf
  | powerSet ops c f hops _ => exact forest_setCfg_same hf (powerOperands_demandsAs hops)
  | faultSet ops c f hops _ =>
    rw [applyRetryLimit_setCfg]
    exact forest_setCfg_same hf (faultOperands_demandsAs hops)
  | viewSet g l e => exact hf
  | railSet r x _ => exact hf

/-- A RETIRED channel has no effective demand: no own demand and no children (R10, R77). -/
theorem effectiveDemand_of_retired {s : State} (hf : ForestLaw s.config) {c : Chan}
    (h : (s.cfg c).admin = .retired) (n : Nat) : s.effectiveDemand n c = false := by
  have hown : s.ownDemand c = false := by simp [State.ownDemand, h]
  cases n with
  | zero => exact hown
  | succ n => simp [State.effectiveDemand, hown, children_eq_nil_of_retired hf h]

/-! ### Items, rule and priorities together -/

/-- The items stand at the effective demand; under `W` the rule of the channels and the priorities of the queue hold
too. -/
structure Governed (W : Prop) (s : State) : Prop where
  balanced : Balanced s
  forest : ForestLaw s.config
  items : Itemized s
  wanted : W → (∀ c, WantRule (s.cfg c) (s.ctl c)) ∧ Ranked s

section Steps

variable {W : Prop} {s t : State}

/-- A step that keeps every rule, the records and the forest, items and entries. -/
theorem Governed.of_lawful (h : Governed W s)
    (hl : ∀ {K R : ChannelConfig → Controller → Prop}, Rule K R → Lawful (fun _ => True) K s →
      Lawful (fun _ => True) K t)
    (hf : ForestLaw s.config → ForestLaw t.config) (hi : Itemized s → Itemized t) (hr : Ranked s → Ranked t) :
    Governed W t :=
  ⟨(hl rule_true h.balanced.lawful).alloc, hf h.forest, hi h.items, fun w =>
    ⟨(hl rule_want ⟨h.balanced, (h.wanted w).1⟩).ruled, hr (h.wanted w).2⟩⟩

theorem Governed.bits (h : Governed W s) (hb : Bits s t) : Governed W t :=
  h.of_lawful (fun rule hl => hl.bits rule hb) (fun hf => by rw [hb.moves.kept.config]; exact hf) hb.itemized hb.ranked

theorem Itemized.of_ctl (h : Itemized s) (hc : ∀ c, (t.ctl c).demand = (s.ctl c).demand)
    (hd : t.demand = s.demand) : Itemized t := fun c => by
  rw [ItemAt, hc, h c, State.dem, State.dem, hd]

theorem Turns.itemized {c : Chan} {k : Controller} (h : Turns s t c k) (hk : k.demand = (s.ctl c).demand)
    (hs : Itemized s) : Itemized t := fun j => (h.itemKept (.inl hk)).itemAt h.demand (hs j)

theorem Turns.ranked {c : Chan} {k : Controller} (h : Turns s t c k) (hs : Ranked s) : Ranked t :=
  h.entriesKept.ranked h.demand hs

theorem Governed.recompute (h : Governed W s) : Governed W s.recompute := by
  refine ⟨balanced_recompute h.balanced, ?_, itemized_recompute h.forest h.items, fun w => ⟨?_, ?_⟩⟩
  · rw [(moves_recompute s).kept.config]
    exact h.forest
  · have hl : Lawful (fun _ => True) WantRule s := ⟨h.balanced, (h.wanted w).1⟩
    exact (hl.acts rule_want (acts_recompute s) fun _ _ => trivial).ruled
  · refine ranked_recompute h.forest h.balanced fun e he => ⟨?_, (h.wanted w).2 e he⟩
    rw [← h.items e.chan]
    exact (((h.wanted w).1 e.chan).1 (.inl (h.balanced.queue.queued he))).2

theorem Governed.fault (h : Governed W s) (cause : FaultCause) {c : Chan} (hc : (s.ctl c).state.closed = true) :
    Governed W (s.fault cause c) := by
  have ht := turns_faultOne cause (ChannelState.charged_of_closed hc)
  have hone : Governed W (s.faultOne cause c) :=
    h.of_lawful (fun rule hl => hl.faultOne rule cause hc)
      (fun hf => by rw [(moves_faultOne s cause c).kept.config]; exact hf) (ht.itemized rfl) ht.ranked
  have hcascade := hone.bits (bits_faultCascade s cause c)
  rw [fault_eq]
  split
  · exact hcascade.recompute
  · exact hcascade

theorem Granted.itemized {c : Chan} {r : Rail} (h : Granted s t c r) (hs : Itemized s) : Itemized t := by
  refine hs.of_ctl (fun j => ?_) h.demand
  rw [h.ctl]
  split
  next e => rw [e]; rfl
  next => rfl

theorem Granted.ranked {c : Chan} {r : Rail} (h : Granted s t c r) (hs : Ranked s) : Ranked t := fun e he => by
  rw [h.queue] at he
  rw [State.dem, h.demand]
  exact hs e (List.mem_filter.1 he).1

theorem Governed.admitted (h : Governed W s) {r : Rail} {e : QueueEntry} {v : List Charge}
    (he : s.candidate r = some e) (hv : s.victims r e.priority (s.cfg e.chan).classAU = some v) :
    Governed W ((s.shed v).grantEntry e.chan r) := by
  have hg := granted_grantEntry (s.shed v) e.chan r
  exact (h.bits (bit_shed hv).bits).of_lawful
    (fun rule hl => hl.grantEntry rule (mem_queue_shed hv (candidate_spec he).1) trivial)
    (fun hf => by rw [(moves_grantEntry _ _ r).kept.config]; exact hf) hg.itemized hg.ranked

theorem Moved.itemized {x : Charge} {new : Rail} (h : Moved s t x new) (hs : Itemized s) : Itemized t := by
  refine hs.of_ctl (fun j => ?_) h.demand
  rw [h.ctl]
  split
  next e => rw [e]; rfl
  next => rfl

theorem Moved.ranked {x : Charge} {new : Rail} (h : Moved s t x new) (hs : Ranked s) : Ranked t := fun e he => by
  rw [h.queue] at he
  rw [State.dem, h.demand]
  exact hs e he

theorem Governed.takeLoss (h : Governed W s) (lost : Rail) (x : LossEntry) : Governed W (s.takeLoss lost x) := by
  rcases takeLoss_cases s lost x with ⟨-, e⟩ | ⟨hx, -, e⟩ | ⟨r, v, hx, hm, e⟩ <;> rw [e]
  · exact h
  · exact h.bits (bits_stop _ ((h.balanced.core.charged _).2 ⟨lost, _, hx, rfl⟩))
  · obtain ⟨hne, -, -, hv⟩ := moveOf_eq_some hm
    have hshed := h.bits (bit_shed hv).bits
    have hmoved := moved_switchOne (s.shed v) x.charge lost r
    have hstays := h.balanced.core.stays_of_move hne hv hx
    exact (hshed.of_lawful (fun rule hl => hl.switchOne rule hstays trivial)
      (fun hf => by rw [hmoved.config]; exact hf) hmoved.itemized hmoved.ranked).bits (bits_enterSwitchover _ _ _ _)

theorem Governed.loseRail (h : Governed W s) (r : Rail) : Governed W (s.loseRail r) := by
  have hdown : Governed W (s.railDown r) := ⟨balanced_railDown h.balanced r, h.forest, h.items, h.wanted⟩
  have hlist : Governed W ((s.lossList r).foldl (fun u x => u.takeLoss r x) (s.railDown r)) :=
    foldl_keeps (P := Governed W) (fun t x ht => ht.takeLoss r x) _ hdown
  rw [loseRail_eq]
  exact ⟨hlist.balanced.same (sameCore_deliver _ _ _), hlist.forest, hlist.items, hlist.wanted⟩

/-! ### Whole steps -/

theorem putHeld_demand (k : Controller) (f : ChannelConfig) : (k.putHeld f).demand = k.demand := by
  unfold Controller.putHeld
  split
  · rfl
  · exact stopped_demand k f
  · exact stopped_demand k f
  · exact stopped_demand k f
  · exact abandoned_demand k f
  all_goals rfl

theorem unlatched_demand (k : Controller) (f : ChannelConfig) : (k.unlatched f).demand = k.demand := by
  unfold Controller.unlatched
  split <;> rfl

theorem putRetired_demand (k : Controller) : k.putRetired.demand = k.demand := by
  unfold Controller.putRetired
  split <;> rfl

theorem putRestored_demand (k : Controller) (f : ChannelConfig) : (k.putRestored f).demand = k.demand := by
  unfold Controller.putRestored
  split
  · split <;> rfl
  · rfl

theorem Beside.itemized (h : Beside s t) (hs : Itemized s) : Itemized t :=
  hs.of_ctl (fun c => by rw [h.core.ctl]) h.core.demand

theorem Beside.ranked (h : Beside s t) (hs : Ranked s) : Ranked t := fun e he => by
  rw [h.core.queue] at he
  rw [h.core.dem]
  exact hs e he

theorem Rough.itemized (h : Rough s t) (hs : Itemized s) : Itemized t := by
  have admin (c : Chan) (x : Admin) : Itemized (s.setAdmin c x) := hs
  cases h with
  | inputs hb => exact hb.itemized hs
  | unlatched c hc => exact (turns_unlatch hc).itemized (unlatched_demand _ _) hs
  | held c _ =>
    obtain ⟨u, hu, hbits⟩ := turns_controllerHold (s := s.setAdmin c .held) (c := c) (by rw [setAdmin_cfg_self])
    exact hbits.itemized (hu.itemized (putHeld_demand _ _) (admin c .held))
  | unheld c _ => exact (turns_controllerUnhold _ c).itemized rfl (admin c .enabled)
  | restored c _ => exact (turns_controllerRestore _ c).itemized (putRestored_demand _ _) (admin c .enabled)
  | retired c _ _ _ hb =>
    exact hb.itemized ((turns_controllerRetire _ c).itemized (putRetired_demand _) (admin c .retired))
  | policySet ops c f _ _ _ hb => exact hb.itemized (s := s.setCfg c f) hs

theorem Rough.ranked (h : Rough s t) (hs : Ranked s) : Ranked t := by
  have admin (c : Chan) (x : Admin) : Ranked (s.setAdmin c x) := hs
  cases h with
  | inputs hb => exact hb.ranked hs
  | unlatched c hc => exact (turns_unlatch hc).ranked hs
  | held c _ =>
    obtain ⟨u, hu, hbits⟩ := turns_controllerHold (s := s.setAdmin c .held) (c := c) (by rw [setAdmin_cfg_self])
    exact hbits.ranked (hu.ranked (admin c .held))
  | unheld c _ => exact (turns_controllerUnhold _ c).ranked (admin c .enabled)
  | restored c _ => exact (turns_controllerRestore _ c).ranked (admin c .enabled)
  | retired c _ _ _ hb => exact hb.ranked ((turns_controllerRetire _ c).ranked (admin c .retired))
  | policySet ops c f _ _ _ hb => exact hb.ranked (s := s.setCfg c f) hs

/-- A RETIRED channel has no demand item. -/
theorem item_of_retired (hf : ForestLaw s.config) (hd : Formulaic s) (hi : Itemized s) (c : Chan)
    (h : (s.cfg c).admin = .retired) : (s.ctl c).demand = false := by
  rw [hi c, hd c]
  exact effectiveDemand_of_retired hf h _

theorem Governed.rough (h : Governed W s) (hd : Formulaic s) (hx : Rough s t) : Governed W t :=
  ⟨(hx.lawful rule_true (fun _ => trivial) h.balanced.lawful).alloc, hx.forest h.forest, hx.itemized h.items,
    fun w => ⟨(hx.lawful rule_want (item_of_retired h.forest hd h.items) ⟨h.balanced, (h.wanted w).1⟩).ruled,
      hx.ranked (h.wanted w).2⟩⟩

theorem Whole.governed (hx : Whole s t) (h : Governed W s) (hd : Formulaic s) : Governed W t := by
  have beside (hb : Beside s t) : Governed W t :=
    h.of_lawful (fun _ hl => hl.same hb.core) (fun hf => by rw [hb.core.config]; exact hf) hb.itemized hb.ranked
  have turned {c : Chan} {k : Controller} {u : State} (ht : Turns s u c k)
      (hc : k.state.charged = true → (s.ctl c).state.charged = true ∧
        k.chargedRail = (s.ctl c).chargedRail ∧ k.grantNumber = (s.ctl c).grantNumber)
      (hk : k.demand = (s.ctl c).demand)
      (hrule : ∀ {K R : ChannelConfig → Controller → Prop}, Rule K R → K (s.cfg c) (s.ctl c) → K (s.cfg c) k) :
      Governed W u :=
    h.of_lawful (fun rule hl => hl.turns ht hc (hrule rule (hl.ruled c)))
      (fun hf => by rw [ht.config]; exact hf) (ht.itemized hk) ht.ranked
  cases hx with
  | apart ha => exact beside ha.toBeside
  | stands c k hk =>
    exact turned (turns_setCtl (by rw [hk.state]) (by rw [hk.state]; exact id))
      (fun hc => ⟨by rw [← hk.state]; exact hc, hk.chargedRail, hk.grantNumber⟩) hk.demand
      fun rule hc => rule.stands hc hk
  | on c hc =>
    have ht : Turns s (s.enterOn c) c (s.ctl c).entersOn := by
      refine .then_same (.then_same (turns_setCtl (by simp [hc, Controller.entersOn])
        (by simp [hc, Controller.entersOn, ChannelState.charged])) (sameCore_setSen _ c _)) (sameCore_reportChannel _ c _)
    exact turned ht (fun _ => ⟨by rw [hc]; rfl, rfl, rfl⟩) rfl fun rule hk => rule.entersOn hk hc
  | started c hc =>
    exact turned (turns_setCtl (by simp [hc, Controller.started]) (by simp [hc, Controller.started, ChannelState.charged]))
      (fun _ => ⟨by rw [hc]; rfl, rfl, rfl⟩) rfl fun rule hk => rule.started hk hc
  | waited c hc =>
    have hq : (s.ctl c).state ≠ .queued := by rcases hc with e | e <;> simp [e]
    have hu : (s.ctl c).state.charged = false := by rcases hc with e | e <;> simp [e, ChannelState.charged]
    have ht := turns_endWait (s := s) (c := c) (s.ctl c) hq hu
    rw [setCtl_ctl_self] at ht
    exact turned ht (uncharged_keeps (waitEnded_charged _ _)) (waitEnded_demand _ _) fun rule hk => rule.waited hk hc
  | faulted cause c hc => exact h.fault cause hc
  | admitted r e v he hv => exact h.admitted he hv
  | railMoved r m _ => exact ⟨h.balanced.of_core rfl rfl rfl rfl fun _ => rfl, h.forest, h.items, h.wanted⟩
  | railLost r _ => exact h.loseRail r
  | recomputed hx => exact (h.rough hd hx).recompute
  | powerSet ops c f hops _ =>
    exact h.of_lawful (fun rule hl => hl.setCfg rule c (powerOperands_kept hops))
      (fun hf => forest_setCfg_same hf (powerOperands_demandsAs hops)) (fun hi => hi) fun hr => hr
  | faultSet ops c f hops hconf =>
    rw [applyRetryLimit_setCfg]
    have ht : Turns (s.setCfg c f) ((s.setCfg c f).setCtl c ((s.ctl c).limited f)) c ((s.ctl c).limited f) :=
      turns_setCtl Iff.rfl id
    have hi : Itemized (s.setCfg c f) → Itemized ((s.setCfg c f).setCtl c ((s.ctl c).limited f)) := ht.itemized rfl
    refine h.of_lawful (fun rule hl => hl.rewritten ht (fun hc => ⟨hc, rfl, rfl⟩)
      (rule.limited (hl.ruled c) hconf (faultOperands_admin hops)))
      (fun hf => forest_setCfg_same hf (faultOperands_demandsAs hops)) hi fun hr => hr
  | viewSet g l e => exact ⟨h.balanced.of_core rfl rfl rfl rfl fun _ => rfl, h.forest, h.items, h.wanted⟩
  | railSet r x _ =>
    refine ⟨h.balanced.of_core rfl rfl rfl rfl fun q => ?_, h.forest, h.items, h.wanted⟩
    rw [State.account_setAccount_of]
    split
    next e => rw [e]
    next => rfl

end Steps

/-! ### Every step -/

theorem wantedLaw_iff {s : State} (hi : Itemized s) :
    WantedLaw s ↔ (∀ c, WantRule (s.cfg c) (s.ctl c)) ∧ Ranked s := by
  unfold WantedLaw WantRule Ranked
  simp only [fun c => (hi c).symm]
  constructor
  · rintro ⟨h1, h2, h3⟩
    exact ⟨fun c => ⟨h1 c, h2 c⟩, h3⟩
  · rintro ⟨h1, h3⟩
    exact ⟨fun c => (h1 c).1, fun c => (h1 c).2, h3⟩

/-- Lawful configurations, and demand and priorities as the formulas and the items have them. -/
structure Sound (W : Prop) (s : State) : Prop where
  configs : ConfigurationLaw s.config ∧ ImagesLawful s.pm
  formulaic : Formulaic s
  governed : Governed W s

theorem sound_of_laws {s : State} (hx : s.everyConfiguration ConfigurationLaw) (ha : AllocationLaw s)
    (hd : DemandLaw s) : Sound (WantedLaw s) s := by
  obtain ⟨hform, hitems⟩ := (demandLaw_iff s).1 hd
  have hconf := (everyConfiguration_iff s).1 hx
  exact ⟨hconf, hform, ((allocationLaw_iff s).1 ha).balanced, hconf.1.2, hitems, (wantedLaw_iff hitems).1⟩

theorem Sound.demandLaw {W : Prop} {s : State} (h : Sound W s) : DemandLaw s :=
  (demandLaw_iff s).2 ⟨h.formulaic, h.governed.items⟩

theorem Sound.wantedLaw {W : Prop} {s : State} (h : Sound W s) (w : W) : WantedLaw s :=
  (wantedLaw_iff h.governed.items).2 (h.governed.wanted w)

/-- Formulas, items and rule along a chain of whole steps. -/
theorem Wholes.governed {W : Prop} {s t : State} (h : Wholes s t) (hg : Governed W s) (hd : Formulaic s) :
    Governed W t ∧ Formulaic t :=
  h.keeps (P := fun s => Governed W s ∧ Formulaic s)
    (fun hx hs => ⟨hx.governed hs.1 hs.2, hx.formulaic hs.1.balanced hs.2⟩) ⟨hg, hd⟩

theorem governed_afterReset (W : Prop) (s : State) (cause : ResetCause) : Governed W (s.afterReset cause) where
  balanced := (reset_allocated _).of_core rfl rfl rfl rfl fun _ => rfl
  forest := configurationLaw_default.2
  items c := by
    rw [ItemAt, afterReset_ctl]
    exact congrArg Demand.effective (reset_dem c).symm
  wanted _ := ⟨fun c => by rw [afterReset_ctl, afterReset_cfg]; exact rule_want.reset, nofun⟩

theorem formulaic_afterReset (s : State) (cause : ResetCause) : Formulaic (s.afterReset cause) := by
  have hreset : Formulaic State.reset := fun c => by rw [reset_dem, reset_demandNow]
  exact hreset.same (.of_state rfl rfl rfl fun _ => Iff.rfl) rfl

theorem governed_loadTables (W : Prop) {s : State} (h : LoadingCore s) (choice : Option SlotId)
    (hf : ForestLaw (s.loadedImage choice)) : Governed W (s.loadTables choice) where
  balanced := allocated_loadTables h choice _
  forest := hf
  items c := by
    have hd : (s.loadTables choice).dem c = Demand.absent := h.demand c
    rw [ItemAt, hd, loadTables_ctl]
    rfl
  wanted _ := by
    refine ⟨fun c => by rw [loadTables_ctl]; exact rule_want.loaded _, fun e he => ?_⟩
    have hq : (s.loadTables choice).queue = [] := h.queue
    rw [hq] at he
    cases he

theorem Sound.apart {W : Prop} {s t : State} (h : Sound W s) (ha : Apart s t) (hp : t.pm = s.pm) : Sound W t := by
  obtain ⟨hg, hd⟩ := (Whole.apart ha).wholes.governed h.governed h.formulaic
  refine ⟨?_, hd, hg⟩
  rw [ha.core.config, hp]
  exact h.configs

theorem sound_does {W : Prop} {s t : State} (hload : LoadingLaw s) (h : Sound W s) (ht : Does s t) : Sound W t := by
  suffices hs : Formulaic t ∧ Governed W t from ⟨configurations_does h.configs ht, hs.1, hs.2⟩
  rcases does_wholes ht with ⟨cause, rfl⟩ | ⟨choice, hstore, rfl⟩ | hx
  · exact ⟨formulaic_afterReset s cause, governed_afterReset W s cause⟩
  · have hcore := hload.core (isLoading_of_loading hstore)
    have himage := configurationLaw_loadedImage h.configs.2 choice
    rw [completeLoad_settled hcore]
    exact ⟨formulaic_recompute _, (governed_loadTables W hcore choice himage.2).recompute⟩
  · obtain ⟨hg, hd⟩ := hx.governed h.governed h.formulaic
    exact ⟨hd, hg⟩

theorem sound_passTime {W : Prop} {s : State} (h : Sound W s) : Sound W s.passTime := by
  have hq := passTime_quiet s
  have hctl := passTime_ctl s
  have hsame : DemandsAs s s.passTime := .of_state hq.config hq.claims hq.enables fun c => by rw [(hctl c).state]
  refine ⟨⟨?_, imagesLawful_passTime h.configs.2⟩, h.formulaic.same hsame hq.demand,
    allocated_passTime h.governed.balanced, ?_, h.governed.items.of_ctl (fun c => (hctl c).demand) hq.demand,
    fun w => ⟨fun c => ?_, fun e he => ?_⟩⟩
  · rw [hq.config]; exact h.configs.1
  · rw [hq.config]; exact h.governed.forest
  · rw [hq.cfg]
    exact rule_want.stands ((h.governed.wanted w).1 c) (hctl c)
  · rw [hq.queue] at he
    rw [hq.dem]
    exact (h.governed.wanted w).2 e he

/-- Settles O57: recomputation brings values and items to the formulas, nothing between two of them moves what the
formulas read, and every transition keeps a channel that waits or runs ENABLED and with its item. -/
theorem demandLawsAreKept : Obligations.DemandLawsAreKept := by
  intro s t hload hx ha hd hstep
  have h : Sound (WantedLaw s) t :=
    step_keeps_of_loading (P := Sound (WantedLaw s)) (fun s l h => h.apart (apart_setPending s l) rfl)
      (fun s n h => h.apart (apart_draw s n) rfl) (fun _ _ => sound_does) (fun _ => sound_passTime) hload
      (sound_of_laws hx ha hd) hstep
  exact ⟨h.demandLaw, h.wantedLaw⟩

end Sys2Proof.Machine
end

section
/-! PROOFS. The parent-ON precondition over every step: cascades end what a parent's stop leaves, and no victim is the
parent of a channel that is granted or moved. -/

namespace Sys2Proof.Machine

/-! ### Charged channels below parents in ON -/

/-- A charged channel's parent is in ON, or one of `V` whose cascade is still to come. -/
def Parented (V : Chan → Prop) (s : State) : Prop :=
  ∀ c p, (s.ctl c).state.charged = true → (s.cfg c).parent = some p → (s.ctl p).state = .isOn ∨ V p

theorem parentLaw_iff (s : State) : ParentLaw s ↔ Parented (fun _ => False) s :=
  by simp [ParentLaw, Parented]

/-- No channel becomes charged. -/
def ChargesNobody (s t : State) : Prop := ∀ c, (s.ctl c).state.charged = false → (t.ctl c).state.charged = false

theorem ChargesNobody.refl (s : State) : ChargesNobody s s := fun _ h => h

theorem ChargesNobody.trans {s t u : State} (h : ChargesNobody s t) (k : ChargesNobody t u) : ChargesNobody s u :=
  fun c hc => k c (h c hc)

theorem chargesNobody_stopOne (s : State) (cause : StopCause) (c : Chan) : ChargesNobody s (s.stopOne cause c) :=
  fun _ h => stopOne_uncharged h cause c

theorem Bit.chargesNobody {s t : State} (h : Bit s t) : ChargesNobody s t := by
  rcases h.cases_turns with h | ⟨c, rfl⟩ | ⟨c, k, ht, hk⟩ | ⟨r, v, -, -, rfl⟩
  · exact fun j hj => by rwa [h.ctl]
  · exact fun j hj => by rwa [reprioritize_ctl]
  · intro j hj
    by_cases e : j = c
    · subst e
      rw [ht.ctl_self]
      refine eq_false_of_ne_true fun hc => ?_
      rw [(hk.charge_kept hc).1] at hj
      cases hj
    · rwa [ht.ctl_ne e]
  · exact foldl_keeps (P := ChargesNobody s) (fun t x ht => ht.trans (chargesNobody_stopOne t _ _)) v (.refl s)

theorem Bits.chargesNobody {s t : State} (h : Bits s t) : ChargesNobody s t :=
  h.keeps (P := ChargesNobody s) (fun hb h => h.trans hb.chargesNobody) (.refl s)

section Basic

variable {V : Chan → Prop} {s t : State}

/-- Nobody new is charged and every channel in ON stays there. -/
theorem Parented.of_states (h : Parented V s) (hc : ∀ j, (t.ctl j).state.charged = true → (s.ctl j).state.charged = true)
    (ho : ∀ p, (s.ctl p).state = .isOn → (t.ctl p).state = .isOn)
    (hp : ∀ j, (t.ctl j).state.charged = true → (t.cfg j).parent = (s.cfg j).parent) : Parented V t := fun c p hx hy =>
  (h c p (hc c hx) (by rw [← hp c hx]; exact hy)).imp_left (ho p)

theorem Parented.mono {W : Chan → Prop} (h : Parented V s) (hw : ∀ p, V p → W p) : Parented W s :=
  fun c p hc hp => (h c p hc hp).imp_right (hw p)

theorem SameCore.parented (e : SameCore s t) (h : Parented V s) : Parented V t :=
  h.of_states (fun j hj => by rwa [e.ctl] at hj) (fun p hp => by rwa [e.ctl]) fun j _ => by rw [e.cfg]

/-- One channel is left uncharged; if it was in ON it is one of `V` or had no charged child. -/
theorem Parented.released (h : Parented V s) {c : Chan} (hctl : ∀ j, j ≠ c → t.ctl j = s.ctl j)
    (hcfg : ∀ j, j ≠ c → (t.cfg j).parent = (s.cfg j).parent) (hc : (t.ctl c).state.charged = false)
    (hv : (s.ctl c).state = .isOn → V c ∨ ∀ k, (s.cfg k).parent = some c → (s.ctl k).state.charged = false) :
    Parented V t := by
  intro j p hj hp
  have hjc : j ≠ c := fun e => by rw [e, hc] at hj; cases hj
  rw [hctl j hjc] at hj
  rw [hcfg j hjc] at hp
  by_cases hpc : p = c
  · subst hpc
    rcases h j p hj hp with ho | hx
    · refine .inr ((hv ho).resolve_right fun hk => ?_)
      rw [hk j hp] at hj
      cases hj
    · exact .inr hx
  · rw [hctl p hpc]
    exact h j p hj hp

theorem Turns.parented {c : Chan} {k : Controller} (ht : Turns s t c k) (h : Parented V s)
    (hc : k.state.charged = false) (ho : (s.ctl c).state.charged = false) : Parented V t :=
  h.released (c := c) (fun _ hj => ht.ctl_ne hj) (fun j _ => by rw [ht.cfg]) (by rw [ht.ctl_self]; exact hc)
    fun hon => by rw [hon] at ho; cases ho

end Basic

/-! ### Stops and cascades -/

/-- Stops along a list leave each of its channels uncharged, and charge nobody. -/
theorem foldl_uncharges {f : Chan → State → State} (hone : ∀ k u, ((f k u).ctl k).state.charged = false)
    (hall : ∀ k u, ChargesNobody u (f k u)) : ∀ (l : List Chan) (s : State),
      let t := l.foldl (fun u k => if (u.ctl k).state.charged then f k u else u) s
      ChargesNobody s t ∧ ∀ k ∈ l, (t.ctl k).state.charged = false
  | [], s => ⟨.refl s, nofun⟩
  | k :: l, s => by
    rw [List.foldl_cons]
    set u := if (s.ctl k).state.charged then f k s else s with hu
    obtain ⟨hnobody, hlist⟩ := foldl_uncharges hone hall l u
    have hstep : ChargesNobody s u ∧ (u.ctl k).state.charged = false := by
      rw [hu]
      split
      · exact ⟨hall k s, hone k s⟩
      next h => exact ⟨.refl s, by simpa using h⟩
    refine ⟨hstep.1.trans hnobody, fun j hj => ?_⟩
    rcases List.mem_cons.1 hj with rfl | hj
    · exact hnobody _ hstep.2
    · exact hlist j hj

theorem chargesNobody_stopTree (n : Nat) (cause : StopCause) (c : Chan) (s : State) :
    ChargesNobody s (stopTree n cause c s) :=
  (chargesNobody_stopOne s cause c).trans (bits_stopTree n cause c s).chargesNobody

theorem stopTree_stopped (n : Nat) (cause : StopCause) (c : Chan) (s : State) :
    ((stopTree n cause c s).ctl c).state.charged = false :=
  (bits_stopTree n cause c s).chargesNobody c (stopOne_stopped s cause c)

theorem stopTree_config (n : Nat) (cause : StopCause) (c : Chan) (s : State) :
    (stopTree n cause c s).config = s.config :=
  ((moves_stopOne s cause c).trans (bits_stopTree n cause c s).moves).kept.config

/-- The stops of the children of `c` end what its own stop left. -/
theorem Parented.childrenStopped {V : Chan → Prop} {s : State} {c : Chan} {f : Chan → State → State} {l : List Chan}
    (h : Parented (fun p => V p ∨ p = c) s) (hl : ∀ k, k ∈ l ↔ (s.cfg k).parent = some c)
    (hone : ∀ k u, ((f k u).ctl k).state.charged = false) (hall : ∀ k u, ChargesNobody u (f k u))
    (hconf : ∀ k u, (f k u).config = u.config)
    (hf : ∀ k ∈ l, ∀ u, u.config = s.config → Parented (fun p => V p ∨ p = c) u →
      Parented (fun p => V p ∨ p = c) (f k u)) :
    Parented V (l.foldl (fun u k => if (u.ctl k).state.charged then f k u else u) s) := by
  have hkept : (fun u : State => u.config = s.config ∧ Parented (fun p => V p ∨ p = c) u)
      (l.foldl (fun u k => if (u.ctl k).state.charged then f k u else u) s) := by
    refine List.foldlRecOn l _ (motive := fun u : State => u.config = s.config ∧ Parented (fun p => V p ∨ p = c) u)
      ⟨rfl, h⟩ fun u hu k hk => ?_
    split
    · exact ⟨(hconf k u).trans hu.1, hf k hk u hu.1 hu.2⟩
    · exact hu
  obtain ⟨-, hdone⟩ := foldl_uncharges hone hall l s
  intro j p hj hp
  rcases hkept.2 j p hj hp with ho | hv | rfl
  · exact .inl ho
  · exact .inr hv
  · rw [hdone j ((hl j).2 (by rw [State.cfg, ← hkept.1]; exact hp))] at hj
    cases hj

theorem Parented.stopTree {depth : Chan → Nat} : ∀ {n : Nat} {V : Chan → Prop} {s : State} {c : Chan}
    (cause : StopCause), Parented V s → IsDepth s depth → 4 ≤ depth c + n → Parented V (stopTree n cause c s)
  | n, V, s, c, cause, h, hd, hn => by
    have hone (hv : (s.ctl c).state = .isOn →
        V c ∨ ∀ k, (s.cfg k).parent = some c → (s.ctl k).state.charged = false) :
        Parented V (s.stopOne cause c) :=
      h.released (c := c) (fun j hj => by rw [stopOne_ctl, if_neg hj]) (fun j _ => by rw [stopOne_cfg])
        (stopOne_stopped s cause c) hv
    cases n with
    | zero =>
      refine hone fun _ => .inr fun k hk => absurd (hd.link k c hk).2.1 ?_
      have := (hd.link k c hk).1
      omega
    | succ n =>
      rw [stopTree_succ]
      split
      next =>
        refine Parented.childrenStopped (c := c) ?_ (fun k => ?_) (fun k u => stopTree_stopped n _ k u)
          (fun k u => chargesNobody_stopTree n _ k u) (fun k u => stopTree_config n _ k u) fun k hk u hu hx => ?_
        · exact (h.mono fun _ => .inl).released (c := c) (fun j hj => by rw [stopOne_ctl, if_neg hj])
            (fun j _ => by rw [stopOne_cfg]) (stopOne_stopped s cause c) fun _ => .inl (.inr rfl)
        · rw [State.mem_children, stopOne_cfg]
        · have hsame (j : Chan) : u.cfg j = s.cfg j := by
            rw [State.cfg, hu]
            exact stopOne_cfg s cause c j
          have hdu : IsDepth u depth :=
            ⟨fun j hj => hd.root j (by rwa [hsame] at hj), fun j p hj => by
              rw [hsame] at hj ⊢; exact hd.link j p hj⟩
          have := (hd.link k c ((State.mem_children s c k).1 hk)).1
          exact Parented.stopTree .parentLost hx hdu (by omega)
      next hoff => exact hone fun ho => absurd ho hoff

theorem Parented.stop {V : Chan → Prop} {s : State} (h : Parented V s) (hf : ForestLaw s.config) (cause : StopCause)
    (c : Chan) : Parented V (s.stop cause c) := by
  obtain ⟨depth, hd⟩ := (forestLaw_iff s).1 hf
  exact h.stopTree cause hd (by unfold treeDepth; omega)

theorem stop_config (s : State) (cause : StopCause) (c : Chan) : (s.stop cause c).config = s.config :=
  stopTree_config _ cause c s

theorem Parented.cascade {V : Chan → Prop} {s : State} {c : Chan} (h : Parented (fun p => V p ∨ p = c) s)
    (hf : ForestLaw s.config) : Parented V (s.cascade c) :=
  h.childrenStopped (f := fun k u => u.stop .parentLost k) (fun k => State.mem_children s c k)
    (fun k u => stopTree_stopped _ _ k u) (fun k u => chargesNobody_stopTree _ _ k u) (fun k u => stop_config u _ k)
    fun k _ u hu hx => hx.stop (by rw [hu]; exact hf) .parentLost k

/-! ### Recomputations and faults -/

section Steps

variable {V : Chan → Prop} {s t : State}

theorem arrived_state (k : Controller) (f : ChannelConfig) : (k.arrived f).state = k.state ∨
    k.state = .off ∧ (k.arrived f).state = .queued := by
  unfold Controller.arrived
  dsimp only
  split
  next h => exact .inr ⟨h.1, rfl⟩
  next => exact .inl rfl

theorem Parented.demandArrival (h : Parented V s) (c : Chan) : Parented V (s.demandArrival c) := by
  have ht := turns_demandArrival s c
  rcases arrived_state (s.ctl c) (s.cfg c) with e | ⟨ho, e⟩
  · have hstate (j : Chan) : ((s.demandArrival c).ctl j).state = (s.ctl j).state := by
      by_cases hj : j = c
      · rw [hj, ht.ctl_self, e]
      · rw [ht.ctl_ne hj]
    exact h.of_states (fun j hj => by rwa [hstate] at hj) (fun p hp => by rwa [hstate]) fun j _ => by rw [ht.cfg]
  · exact ht.parented h (by rw [e]; rfl) (by rw [ho]; rfl)

theorem Parented.demandLoss (h : Parented V s) (hf : ForestLaw s.config) (c : Chan) : Parented V (s.demandLoss c) := by
  by_cases hc : (s.ctl c).state.charged = true
  · rw [demandLoss_of_charged hc]
    have hset : Parented V (s.setCtl c (s.ctl c).itemless) := by
      have hstate (j : Chan) : ((s.setCtl c (s.ctl c).itemless).ctl j).state = (s.ctl j).state := by
        rw [State.ctl_setCtl_of]
        split
        next e => rw [e]; rfl
        next => rfl
      exact h.of_states (fun j hj => by rwa [hstate] at hj) (fun p hp => by rwa [hstate]) fun _ _ => rfl
    exact hset.stop hf .released c
  · have hc : (s.ctl c).state.charged = false := by simpa using hc
    exact (turns_demandLoss hc).parented h (lost_charged _ _) hc

theorem Parented.reprioritize (h : Parented V s) (c : Chan) : Parented V (s.reprioritize c) :=
  h.of_states (fun j hj => by rwa [reprioritize_ctl] at hj) (fun p hp => by rwa [reprioritize_ctl])
    fun j _ => by rw [reprioritize_cfg]

theorem Parented.handOn (h : Parented V s) (hf : ForestLaw s.config) (old : Demand) (c : Chan) :
    Parented V (s.handOn old c) := by
  unfold State.handOn
  split
  · exact h.demandArrival c
  · exact h.demandLoss hf c
  · split
    · exact h
    · exact h.reprioritize c
  · exact h

theorem Parented.recompute (h : Parented V s) (hf : ForestLaw s.config) : Parented V s.recompute := by
  have hvalued : Parented V s.valued := h.of_states (fun j hj => by rwa [valued_ctl] at hj)
    (fun p hp => by rwa [valued_ctl]) fun j _ => by rw [(moves_valued s).cfg]
  have hconf : s.valued.config = s.config := (moves_valued s).kept.config
  rw [recompute_eq]
  exact (inFreeOrder_keeps (P := fun u => Parented V u ∧ u.config = s.config)
    (fun c u hu => ⟨hu.1.handOn (by rw [hu.2]; exact hf) _ c, (bits_handOn u _ c).moves.kept.config.trans hu.2⟩)
    (fun u hu => ⟨(sameCore_draw u _).parented hu.1, hu.2⟩) _ _ _ ⟨hvalued, hconf⟩).1

theorem Parented.fault (h : Parented V s) (hf : ForestLaw s.config) (cause : FaultCause) {c : Chan}
    (hc : (s.ctl c).state.closed = true) : Parented V (s.fault cause c) := by
  have ht := turns_faultOne cause (ChannelState.charged_of_closed hc)
  have hconf : (s.faultOne cause c).config = s.config := ht.config
  have hleft : ((s.faultOne cause c).ctl c).state.charged = false := by
    rw [ht.ctl_self]
    exact faulted_charged _ _ _
  have hcascade : Parented V (s.faultCascade cause c) := by
    unfold State.faultCascade
    split
    next =>
      refine Parented.cascade ?_ (by rw [hconf]; exact hf)
      exact (h.mono fun _ => .inl).released (c := c) (fun j hj => ht.ctl_ne hj) (fun j _ => by rw [ht.cfg]) hleft
        fun _ => .inl (.inr rfl)
    next hoff =>
      exact h.released (c := c) (fun j hj => ht.ctl_ne hj) (fun j _ => by rw [ht.cfg]) hleft fun ho => absurd ho hoff
  have hconf' : (s.faultCascade cause c).config = s.config :=
    (bits_faultCascade s cause c).moves.kept.config.trans hconf
  rw [fault_eq]
  split
  · exact hcascade.recompute (by rw [hconf']; exact hf)
  · exact hcascade

/-! ### Victims, grants and moves -/

/-- Victims have no charged child. -/
theorem victim_children {r : Rail} {p need : Nat} {v : List Charge} (hv : s.victims r p need = some v) {x : Charge}
    (hx : x ∈ v) (k : Chan) (hk : (s.cfg k).parent = some x.chan) : (s.ctl k).state.charged = false :=
  ChannelState.charged_of_inactive (((sheddable_iff s p x).1 ((victims_spec hv).2 x hx)).2.1 k hk)

theorem parented_stops {v : List Charge} (h : Parented V s)
    (hv : ∀ x ∈ v, ∀ k, (s.cfg k).parent = some x.chan → (s.ctl k).state.charged = false) :
    Parented V (v.foldl (fun t x => t.stopOne .shed x.chan) s) := by
  refine (List.foldlRecOn v (fun t x => t.stopOne .shed x.chan) (motive := fun t : State =>
    Parented V t ∧ ChargesNobody s t ∧ t.config = s.config) ⟨h, .refl s, rfl⟩ fun t ht x hx => ?_).1
  obtain ⟨hp, hn, hc⟩ := ht
  refine ⟨?_, hn.trans (chargesNobody_stopOne t _ _), (moves_stopOne t .shed x.chan).kept.config.trans hc⟩
  refine hp.released (c := x.chan) (fun j hj => by rw [stopOne_ctl, if_neg hj]) (fun j _ => by rw [stopOne_cfg])
    (stopOne_stopped t _ _) fun _ => .inr fun k hk => hn k (hv x hx k ?_)
  rwa [State.cfg, hc] at hk

theorem Parented.shed (h : Parented V s) {r : Rail} {p need : Nat} {v : List Charge}
    (hv : s.victims r p need = some v) : Parented V (s.shed v) := by
  rw [shed_victims hv]
  exact parented_stops h fun x hx => victim_children hv hx

theorem stops_ctl {c : Chan} {v : List Charge} (h : ∀ x ∈ v, x.chan ≠ c) :
    (v.foldl (fun t x => t.stopOne .shed x.chan) s).ctl c = s.ctl c :=
  List.foldlRecOn v (fun t x => t.stopOne .shed x.chan) (motive := fun t : State => t.ctl c = s.ctl c) rfl
    fun t ht x hx => by rw [stopOne_ctl, if_neg (h x hx).symm, ht]

/-- Channels that are not victims stand. -/
theorem shed_ctl_of_not_mem {r : Rail} {p need : Nat} {v : List Charge} (hv : s.victims r p need = some v) {c : Chan}
    (hc : ∀ x ∈ v, x.chan ≠ c) : (s.shed v).ctl c = s.ctl c := by
  rw [shed_victims hv]
  exact stops_ctl hc

/-- Below the forest's depth the bound on the levels is without effect. -/
theorem effectiveDemand_stable {depth : Chan → Nat} (hd : IsDepth s depth) : ∀ {n : Nat} {c : Chan},
    4 ≤ depth c + n → s.effectiveDemand (n + 1) c = s.effectiveDemand n c
  | 0, c, hn => by
    have hnil : s.children c = [] := List.eq_nil_iff_forall_not_mem.2 fun k hk => by
      have := hd.link k c ((State.mem_children s c k).1 hk)
      omega
    simp [State.effectiveDemand, hnil]
  | n + 1, c, hn => by
    rw [State.effectiveDemand, State.effectiveDemand]
    congr 1
    rw [Bool.eq_iff_iff, List.any_eq_true, List.any_eq_true]
    refine exists_congr fun k => and_congr_right fun hk => ?_
    have := (hd.link k c ((State.mem_children s c k).1 hk)).1
    rw [effectiveDemand_stable hd (by omega)]

theorem effectivePriority_stable {depth : Chan → Nat} (hd : IsDepth s depth) : ∀ {n : Nat} {c : Chan},
    4 ≤ depth c + n → s.effectivePriority (n + 2) c = s.effectivePriority (n + 1) c
  | n, c, hn => by
    rw [State.effectivePriority, State.effectivePriority, effectiveDemand_stable hd (by omega)]
    have hdeep (k : Chan) (hk : k ∈ s.children c) : 4 ≤ depth k + (n - 1) ∧ n ≠ 0 := by
      have := hd.link k c ((State.mem_children s c k).1 hk)
      omega
    have hfilter : ((s.children c).filter fun k => s.mayContribute k && s.effectiveDemand (n + 1) k) =
        (s.children c).filter fun k => s.mayContribute k && s.effectiveDemand n k :=
      List.filter_congr fun k hk => by rw [effectiveDemand_stable hd (by have := hdeep k hk; omega)]
    rw [hfilter]
    congr 4
    refine List.map_congr_left fun k hk => ?_
    obtain ⟨h4, hn0⟩ := hdeep k (List.mem_filter.1 hk).1
    obtain ⟨m, rfl⟩ := Nat.exists_eq_succ_of_ne_zero hn0
    exact effectivePriority_stable hd (by simpa using h4)

/-- A contributing child raises its parent's priority to its own (R14). -/
theorem priority_le_parent (hf : ForestLaw s.config) (hd : Formulaic s) {c p : Chan} (hp : (s.cfg c).parent = some p)
    (hm : s.mayContribute c = true) (he : (s.dem c).effective = true) : (s.dem c).priority ≤ (s.dem p).priority := by
  obtain ⟨depth, hdep⟩ := (forestLaw_iff s).1 hf
  have hpos := (hdep.link c p hp).1
  rw [hd c] at he ⊢
  rw [hd p]
  have he15 : s.effectiveDemand 15 c = true := by
    rw [← effectiveDemand_stable hdep (by omega)]
    exact he
  have hmem : c ∈ (s.children p).filter fun k => s.mayContribute k && s.effectiveDemand 15 k :=
    List.mem_filter.2 ⟨(State.mem_children s p c).2 hp, by rw [hm, he15]; rfl⟩
  have hep : s.effectiveDemand 16 p = true := by
    rw [State.effectiveDemand, Bool.or_eq_true]
    obtain ⟨h1, h2⟩ := List.mem_filter.1 hmem
    exact .inr (List.any_eq_true.2 ⟨c, h1, h2⟩)
  show s.effectivePriority 16 c ≤ s.effectivePriority 16 p
  rw [effectivePriority_stable (n := 14) hdep (by omega), State.effectivePriority.eq_2 s p, if_pos hep]
  exact le_largest (List.mem_cons_of_mem _ (List.mem_cons_of_mem _ (List.mem_map_of_mem hmem)))

end Steps

end Sys2Proof.Machine
end

section
/-! PROOFS. The parent-ON precondition over whole steps and over every step. -/

namespace Sys2Proof.Machine

section Steps

variable {V : Chan → Prop} {s t : State}

/-! ### Grants and rail losses -/

theorem Governed.candidate_parent (hg : Governed True s) (hd : Formulaic s) {r : Rail} {e : QueueEntry}
    {v : List Charge} (he : s.candidate r = some e)
    (hv : s.victims r e.priority (s.cfg e.chan).classAU = some v) {p : Chan} (hp : (s.cfg e.chan).parent = some p) :
    ∀ x ∈ v, x.chan ≠ p := by
  rintro x hx rfl
  obtain ⟨hmem, -, -⟩ := candidate_spec he
  obtain ⟨hrule, hranked⟩ := hg.wanted trivial
  have hq := hg.balanced.queue.queued hmem
  obtain ⟨hadmin, hitem⟩ := (hrule e.chan).1 (.inl hq)
  have hle := priority_le_parent hg.forest hd hp (by simp [State.mayContribute, hadmin, hq])
    (by rw [← hg.items e.chan]; exact hitem)
  have hlt := ((sheddable_iff s _ x).1 ((victims_spec hv).2 x hx)).2.2
  rw [← hranked e hmem] at hle
  omega

theorem Parented.admitted (h : Parented V s) (hg : Governed True s) (hd : Formulaic s) {r : Rail} {e : QueueEntry}
    {v : List Charge} (he : s.candidate r = some e)
    (hv : s.victims r e.priority (s.cfg e.chan).classAU = some v) :
    Parented V ((s.shed v).grantEntry e.chan r) := by
  obtain ⟨hmem, hon, -⟩ := candidate_spec he
  have hgrant := granted_grantEntry (s.shed v) e.chan r
  have hconf : (s.shed v).config = s.config := (moves_shed s v).kept.config
  have hcfg (j : Chan) : ((s.shed v).grantEntry e.chan r).cfg j = s.cfg j := by
    rw [State.cfg, hgrant.config, hconf]
    rfl
  have hqueued : ((s.shed v).ctl e.chan).state = .queued :=
    (hg.bits (bit_shed hv).bits).balanced.queue.queued (mem_queue_shed hv hmem)
  have stays {p : Chan} (hp : ((s.shed v).ctl p).state = .isOn) :
      (((s.shed v).grantEntry e.chan r).ctl p).state = .isOn := by
    rw [hgrant.ctl, if_neg fun hx => by rw [hx, hqueued] at hp; cases hp]
    exact hp
  intro j p hj hp
  rw [hcfg] at hp
  by_cases hje : j = e.chan
  · subst hje
    refine .inl (stays ?_)
    rw [shed_ctl_of_not_mem hv (hg.candidate_parent hd he hv hp)]
    exact (parentOn_iff s _).1 hon p hp
  · rw [hgrant.ctl, if_neg hje] at hj
    exact (h.shed hv j p hj (by rw [State.cfg, hconf]; exact hp)).imp_left stays

theorem Parented.switched (h : Parented V s) (hf : ForestLaw s.config) {x : Charge} (lost new : Rail)
    (hx : (s.ctl x.chan).state.charged = true) :
    Parented V ((s.moveCharge x new).enterSwitchover x.chan lost new) := by
  have hmoved := moved_switchOne s x lost new
  have hcfg (j : Chan) : (s.switchOne x lost new).cfg j = s.cfg j := by rw [State.cfg, hmoved.config]; rfl
  have hone (W : Chan → Prop) (hW : Parented W s) (hon : (s.ctl x.chan).state = .isOn → W x.chan) :
      Parented W (s.switchOne x lost new) := by
    intro j p hj hp
    rw [hcfg] at hp
    have hjs : (s.ctl j).state.charged = true := by
      rw [hmoved.ctl] at hj
      split at hj
      next e => rw [e]; exact hx
      next => exact hj
    rcases hW j p hjs hp with ho | hw
    · by_cases hpx : p = x.chan
      · rw [hpx] at ho ⊢
        exact .inr (hon ho)
      · rw [hmoved.ctl, if_neg hpx]
        exact .inl ho
    · exact .inr hw
  rw [enterSwitchover_moveCharge]
  split
  next =>
    exact (hone _ (h.mono fun _ => .inl) fun _ => .inr rfl).cascade (by rw [hmoved.config]; exact hf)
  next hoff => exact hone V h fun ho => absurd ho hoff

theorem Parented.takeLoss (h : Parented V s) (hg : Governed True s) (lost : Rail) (x : LossEntry) :
    Parented V (s.takeLoss lost x) := by
  rcases takeLoss_cases s lost x with ⟨-, e⟩ | ⟨-, -, e⟩ | ⟨r, v, hx, hm, e⟩ <;> rw [e]
  · exact h
  · exact h.stop hg.forest _ _
  · obtain ⟨hne, -, -, hv⟩ := moveOf_eq_some hm
    have hshed := hg.bits (bit_shed hv).bits
    refine (h.shed hv).switched hshed.forest lost r ((hshed.balanced.core.charged _).2 ⟨lost, _, ?_, rfl⟩)
    exact hg.balanced.core.stays_of_move hne hv hx

theorem Parented.loseRail (h : Parented V s) (hg : Governed True s) (r : Rail) : Parented V (s.loseRail r) := by
  have hdown : Governed True (s.railDown r) := ⟨balanced_railDown hg.balanced r, hg.forest, hg.items, hg.wanted⟩
  have hlist : Governed True ((s.lossList r).foldl (fun u x => u.takeLoss r x) (s.railDown r)) ∧
      Parented V ((s.lossList r).foldl (fun u x => u.takeLoss r x) (s.railDown r)) :=
    foldl_keeps (P := fun u => Governed True u ∧ Parented V u)
      (fun u x hu => ⟨hu.1.takeLoss r x, hu.2.takeLoss hu.1 r x⟩) _ ⟨hdown, h⟩
  rw [loseRail_eq]
  exact (sameCore_deliver _ _ _).parented hlist.2

/-! ### Rough and whole steps -/

/-- A turn that keeps the state, or happens outside the charged states. -/
theorem Turns.parented_of_kept {c : Chan} {k : Controller} (ht : Turns s t c k) (h : Parented V s)
    (hk : k.state = (s.ctl c).state ∨ k.state.charged = false ∧ (s.ctl c).state.charged = false) : Parented V t := by
  rcases hk with e | ⟨hc, ho⟩
  · have hstate (j : Chan) : (t.ctl j).state = (s.ctl j).state := by
      by_cases hj : j = c
      · rw [hj, ht.ctl_self, e]
      · rw [ht.ctl_ne hj]
    exact h.of_states (fun j hj => by rwa [hstate] at hj) (fun p hp => by rwa [hstate]) fun j _ => by rw [ht.cfg]
  · exact ht.parented h hc ho

theorem Parented.controllerHold (h : Parented V s) (hf : ForestLaw s.config) {c : Chan}
    (ha : (s.cfg c).admin = .held) : Parented V (s.controllerHold c) := by
  unfold State.controllerHold
  split
  next hq =>
    have ht := turns_unqueue_enterOff (k := s.ctl c) hq (by simp [Controller.wantedBy, ha])
    rw [setCtl_ctl_self] at ht
    exact ht.parented h (rested_charged _ _) (by rw [hq]; rfl)
  · exact h.stop hf .held c
  · exact h.stop hf .held c
  · exact h.stop hf .held c
  next hr =>
    have ht := turns_abandonRetry (k := s.ctl c) hr
    rw [setCtl_ctl_self] at ht
    exact ht.parented h (abandoned_charged _ _) (by rw [hr]; rfl)
  all_goals exact h

theorem putUnheld_state (k : Controller) (f : ChannelConfig) :
    (k.putUnheld f).state = k.state ∨ (k.putUnheld f).state.charged = false ∧ k.state.charged = false := by
  unfold Controller.putUnheld
  split
  next h => exact .inr ⟨rfl, by rw [h.1]; rfl⟩
  next => exact .inl rfl

theorem putRetired_state (k : Controller) :
    k.putRetired.state = k.state ∨ k.putRetired.state.charged = false ∧ k.state.charged = false := by
  unfold Controller.putRetired
  split
  next h => exact .inr ⟨rfl, by rcases h with e | e <;> rw [e] <;> rfl⟩
  next => exact .inl rfl

theorem putRestored_state (k : Controller) (f : ChannelConfig) :
    (k.putRestored f).state = k.state ∨ (k.putRestored f).state.charged = false ∧ k.state.charged = false := by
  unfold Controller.putRestored
  split
  next h =>
    refine .inr ⟨?_, by rw [h]; rfl⟩
    split
    · rfl
    · exact rested_charged _ _
  next => exact .inl rfl

/-- A record rewritten with its parent link as it was. -/
theorem Parented.setCfg (h : Parented V s) {c : Chan} {f : ChannelConfig} (hp : f.parent = (s.cfg c).parent) :
    Parented V (s.setCfg c f) :=
  h.of_states (fun _ hj => hj) (fun _ hp => hp) fun j _ => by
    rw [State.cfg_setCfg_of]
    split
    next e => rw [e, hp]
    next => rfl

theorem ChannelState.uncharged_of_configurable {x : ChannelState} (h : x.configurable = true) : x.charged = false := by
  cases x <;> simp_all [ChannelState.configurable, ChannelState.charged]

theorem Rough.parented (hx : Rough s t) (h : Parented V s) (hf : ForestLaw s.config) : Parented V t := by
  have admin (c : Chan) (x : Admin) : Parented V (s.setAdmin c x) := h.setCfg rfl
  cases hx with
  | inputs hb => exact hb.core.parented h
  | unlatched c hc => exact (turns_unlatch hc).parented h (unlatched_charged _ _) (by rw [hc]; rfl)
  | held c _ =>
    exact (admin c .held).controllerHold (forest_setCfg hf rfl fun e => by cases e) (by rw [setAdmin_cfg_self])
  | unheld c _ => exact (turns_controllerUnhold _ c).parented_of_kept (admin c .enabled) (putUnheld_state _ _)
  | restored c _ => exact (turns_controllerRestore _ c).parented_of_kept (admin c .enabled) (putRestored_state _ _)
  | retired c _ _ _ hb =>
    exact hb.core.parented ((turns_controllerRetire _ c).parented_of_kept (admin c .retired) (putRetired_state _))
  | policySet ops c f _ hconf _ hb =>
    refine hb.core.parented (s := s.setCfg c f) (h.of_states (fun _ hj => hj) (fun _ hp => hp) fun j hj => ?_)
    rw [State.cfg_setCfg_of, if_neg]
    rintro rfl
    have hu := ChannelState.uncharged_of_configurable hconf
    rw [State.setCfg_ctl, hu] at hj
    cases hj

/-- A controller rewritten: charged only where it was, and in ON where it was. -/
theorem Parented.setCtl (h : Parented V s) {c : Chan} {k : Controller}
    (hc : k.state.charged = true → (s.ctl c).state.charged = true)
    (ho : (s.ctl c).state = .isOn → k.state = .isOn) : Parented V (s.setCtl c k) := by
  refine h.of_states (fun j hj => ?_) (fun p hp => ?_) fun _ _ => rfl
  · rw [State.ctl_setCtl_of] at hj
    split at hj
    next e => rw [e]; exact hc hj
    next => exact hj
  · rw [State.ctl_setCtl_of]
    split
    next e => rw [e] at hp; exact ho hp
    next => exact hp

theorem Whole.parented (hx : Whole s t) (h : Parented V s) (hg : Governed True s) (hd : Formulaic s) :
    Parented V t := by
  cases hx with
  | apart ha => exact ha.core.parented h
  | stands c k hk => exact h.setCtl (by rw [hk.state]; exact id) (by rw [hk.state]; exact id)
  | on c hc =>
    refine SameCore.parented (s := s.setCtl c (s.ctl c).entersOn)
      ((sameCore_setSen _ c _).trans (sameCore_reportChannel _ c _)) (h.setCtl (fun _ => by rw [hc]; rfl) fun _ => rfl)
  | started c hc => exact h.setCtl (fun _ => by rw [hc]; rfl) fun ho => by rw [hc] at ho; cases ho
  | waited c hc =>
    have hq : (s.ctl c).state ≠ .queued := by rcases hc with e | e <;> simp [e]
    have hu : (s.ctl c).state.charged = false := by rcases hc with e | e <;> simp [e, ChannelState.charged]
    have ht := turns_endWait (s := s) (c := c) (s.ctl c) hq hu
    rw [setCtl_ctl_self] at ht
    exact ht.parented h (waitEnded_charged _ _) hu
  | faulted cause c hc => exact h.fault hg.forest cause hc
  | admitted r e v he hv => exact h.admitted hg hd he hv
  | railMoved r m _ => exact h.of_states (fun _ hj => hj) (fun _ hp => hp) fun _ _ => rfl
  | railLost r _ => exact h.loseRail hg r
  | recomputed hr => exact (hr.parented h hg.forest).recompute (hr.forest hg.forest)
  | powerSet ops c f hops _ => exact h.setCfg (powerOperands_demandsAs hops).parent
  | faultSet ops c f hops _ =>
    rw [applyRetryLimit_setCfg]
    exact (h.setCfg (faultOperands_demandsAs hops).parent).setCtl id id
  | viewSet g l e => exact h.of_states (fun _ hj => hj) (fun _ hp => hp) fun _ _ => rfl
  | railSet r x _ => exact h.of_states (fun _ hj => hj) (fun _ hp => hp) fun _ _ => rfl

theorem Wholes.parented (hx : Wholes s t) (h : Parented V s) (hg : Governed True s) (hd : Formulaic s) :
    Parented V t :=
  (hx.keeps (P := fun u => Parented V u ∧ Governed True u ∧ Formulaic u)
    (fun hx hu => ⟨hx.parented hu.1 hu.2.1 hu.2.2, hx.governed hu.2.1 hu.2.2, hx.formulaic hu.2.1.balanced hu.2.2⟩)
    ⟨h, hg, hd⟩).1

end Steps

/-! ### Every step -/

/-- Nobody charged, nothing to ask. -/
theorem parented_of_uncharged {V : Chan → Prop} {s : State} (h : ∀ c, (s.ctl c).state.charged = false) :
    Parented V s := fun c p hc => by
  rw [h c] at hc
  cases hc

/-- Settles O58: a stop's cascade ends the children that its channel leaves, a candidate's parent has at least its
priority and is no victim, and a channel that moves takes its own children off. -/
theorem parentLawIsKept : Obligations.ParentLawIsKept := by
  intro s t hload hx ha hd hw hs hstep
  rw [parentLaw_iff] at *
  have hsound := sound_of_laws hx ha hd
  have hstart : Sound True s := ⟨hsound.configs, hsound.formulaic, hsound.governed.balanced, hsound.governed.forest,
    hsound.governed.items, fun _ => hsound.governed.wanted hw⟩
  refine (step_keeps_of_loading (P := fun u => Sound True u ∧ Parented (fun _ => False) u)
    (fun u l hu => ⟨hu.1.apart (apart_setPending u l) rfl, (apart_setPending u l).core.parented hu.2⟩)
    (fun u n hu => ⟨hu.1.apart (apart_draw u n) rfl, (apart_draw u n).core.parented hu.2⟩)
    (fun u v hload hu hdoes => ⟨sound_does hload hu.1 hdoes, ?_⟩) (fun u hu => ⟨sound_passTime hu.1, ?_⟩) hload
    ⟨hstart, hs⟩ hstep).2
  · rcases does_wholes hdoes with ⟨cause, rfl⟩ | ⟨choice, hstore, rfl⟩ | hwholes
    · exact parented_of_uncharged fun c => by rw [afterReset_ctl]; rfl
    · have hcore := hload.core (isLoading_of_loading hstore)
      rw [completeLoad_settled hcore]
      refine Parented.recompute (parented_of_uncharged fun c => ?_) (configurationLaw_loadedImage hu.1.configs.2 choice).2
      rw [loadTables_ctl, Controller.atLoad_uncharged]
    · exact hwholes.parented hu.2 hu.1.governed hu.1.formulaic
  · exact hu.2.of_states (fun j hj => by rwa [(passTime_ctl u j).state] at hj)
      (fun p hp => by rwa [(passTime_ctl u p).state]) fun j _ => by rw [(passTime_quiet u).cfg]

end Sys2Proof.Machine
end

section
/-! PROOFS. What a stop and a fault leave of the channel they are taken on, its children and the notice queues. -/

namespace Sys2Proof.Machine

/-! ### The Sense Unit's items under small steps -/

theorem enterOff_sense (s : State) (c : Chan) : (s.enterOff c).sense = s.sense := by
  unfold State.enterOff
  dsimp only
  split <;> rfl

theorem endWait_sense (s : State) (c : Chan) : (s.endWait c).sense = s.sense := by
  unfold State.endWait
  split
  · rfl
  · exact enterOff_sense s c

theorem abandonRetry_sense (s : State) (c : Chan) : (s.abandonRetry c).sense = s.sense := by
  unfold State.abandonRetry
  dsimp only
  split
  · rfl
  · exact enterOff_sense _ c

/-- The sense items of a channel whose switches open (R59, R72, R94). -/
def ChannelSense.quieted (x : ChannelSense) : ChannelSense :=
  { x with tripRun := 0, tripPassed := false, powerGood := false, detachArmed := false, detachPassed := false }

theorem sen_of_sense {s t : State} (h : t.sense = s.sense) (c : Chan) : t.sen c = s.sen c := by
  rw [State.sen, State.sen, h]

theorem stopOne_sen (s : State) (cause : StopCause) (c j : Chan) :
    (s.stopOne cause c).sen j = if j = c then (s.sen c).quieted else s.sen j := by
  have hquiet (k : Controller) : (((s.uncharge c).quiet c).setCtl c k).sen j =
      if j = c then (s.sen c).quieted else s.sen j := State.sen_setSen_of (s.uncharge c) c j _
  unfold State.stopOne
  dsimp only
  change State.sen (if _ then _ else _) j = _
  split
  · rw [sen_of_sense (endWait_sense _ c), hquiet]
  · exact hquiet _

theorem demandArrival_sense (s : State) (c : Chan) : (s.demandArrival c).sense = s.sense := by
  unfold State.demandArrival
  split
  · split <;> rfl
  all_goals rfl

theorem demandLoss_sense {s : State} {c : Chan} (hc : (s.ctl c).state.charged = false) :
    (s.demandLoss c).sense = s.sense := by
  unfold State.demandLoss
  dsimp only
  split
  · exact enterOff_sense _ c
  next h => simp [h, ChannelState.charged] at hc
  next h => simp [h, ChannelState.charged] at hc
  next h => simp [h, ChannelState.charged] at hc
  · exact abandonRetry_sense _ c
  all_goals rfl

/-- Detach run disarmed, power-good cleared, trip run 0. -/
def ChannelSense.IsQuiet (x : ChannelSense) : Prop :=
  x.detachArmed = false ∧ x.powerGood = false ∧ x.tripRun = 0

theorem stopOne_isQuiet {s : State} {j : Chan} (h : (s.sen j).IsQuiet) (cause : StopCause) (c : Chan) :
    ((s.stopOne cause c).sen j).IsQuiet := by
  rw [stopOne_sen]
  split
  · exact ⟨rfl, rfl, rfl⟩
  · exact h

theorem Bit.isQuiet {s t : State} (h : Bit s t) {j : Chan} (hj : (s.sen j).IsQuiet) : (t.sen j).IsQuiet := by
  cases h with
  | draw n => exact hj
  | arrived c _ => rwa [sen_of_sense (demandArrival_sense s c)]
  | lost c hc _ => rwa [sen_of_sense (demandLoss_sense hc)]
  | released c _ _ => exact stopOne_isQuiet (s := s.setCtl c (s.ctl c).itemless) hj _ _
  | reprioritized c => rw [reprioritize_frame]; exact hj
  | stopped cause c _ => exact stopOne_isQuiet hj _ _
  | shed r v _ _ => exact foldl_keeps (P := fun t => (t.sen j).IsQuiet) (fun t x ht => stopOne_isQuiet ht _ _) v hj

theorem Bits.isQuiet {s t : State} (h : Bits s t) {j : Chan} (hj : (s.sen j).IsQuiet) : (t.sen j).IsQuiet :=
  h.keeps (P := fun t => (t.sen j).IsQuiet) (fun hb => hb.isQuiet) hj

/-! ### Controllers that a cascade passes over -/

/-- Stops of charged channels along a list leave a controller that is not charged. -/
theorem foldl_charged_ctl {f : Chan → State → State} {j : Chan}
    (hf : ∀ k u, k ≠ j → (u.ctl j).state.charged = false → (f k u).ctl j = u.ctl j) (l : List Chan) {s : State}
    (hj : (s.ctl j).state.charged = false) :
    (l.foldl (fun u k => if (u.ctl k).state.charged then f k u else u) s).ctl j = s.ctl j := by
  refine List.foldlRecOn l _ (motive := fun u : State => u.ctl j = s.ctl j) rfl fun u hu k _ => ?_
  split
  next hk =>
    rw [hf k u (fun e => ?_) (by rw [hu]; exact hj), hu]
    rw [e, hu, hj] at hk
    cases hk
  next => exact hu

theorem stopTree_ctl_ne {n : Nat} {cause : StopCause} {c j : Chan} {s : State} (hj : j ≠ c)
    (hu : (s.ctl j).state.charged = false) : (stopTree n cause c s).ctl j = s.ctl j := by
  induction n generalizing cause c s with
  | zero => rw [stopTree_zero, stopOne_ctl, if_neg hj]
  | succ n ih =>
    have hone : (s.stopOne cause c).ctl j = s.ctl j := by rw [stopOne_ctl, if_neg hj]
    rw [stopTree_succ]
    split
    · rw [foldl_charged_ctl (fun k u hk hx => ih hk.symm hx) _ (by rwa [hone]), hone]
    · exact hone

theorem stop_ctl_ne {cause : StopCause} {c j : Chan} {s : State} (hj : j ≠ c)
    (hu : (s.ctl j).state.charged = false) : (s.stop cause c).ctl j = s.ctl j := stopTree_ctl_ne hj hu

theorem cascade_ctl {c j : Chan} {s : State} (hu : (s.ctl j).state.charged = false) :
    (s.cascade c).ctl j = s.ctl j :=
  foldl_charged_ctl (f := fun k u => u.stop .parentLost k) (fun _ _ hk hx => stop_ctl_ne hk.symm hx) _ hu

/-- A stop's cascade leaves what the stop itself made of its channel. -/
theorem stop_ctl_self (s : State) (cause : StopCause) (c : Chan) :
    (s.stop cause c).ctl c = (s.ctl c).stopped (s.cfg c) := by
  have hone : (s.stopOne cause c).ctl c = (s.ctl c).stopped (s.cfg c) := by rw [stopOne_ctl, if_pos rfl]
  unfold State.stop treeDepth
  rw [stopTree_succ]
  split
  · rw [foldl_charged_ctl (fun k u hk hx => stopTree_ctl_ne hk.symm hx) _ (stopOne_stopped s cause c), hone]
  · exact hone

/-- A stop of a channel in ON leaves no child of it charged. -/
theorem stop_children {s : State} (cause : StopCause) {c : Chan} (ho : (s.ctl c).state = .isOn) {k : Chan}
    (hk : (s.cfg k).parent = some c) : ((s.stop cause c).ctl k).state.charged = false := by
  unfold State.stop treeDepth
  rw [stopTree_succ, if_pos ho]
  exact (foldl_uncharges (fun j u => stopTree_stopped _ _ j u) (fun j u => chargesNobody_stopTree _ _ j u) _ _).2 k
    ((State.mem_children s c k).2 hk)

theorem cascade_children {s : State} {c k : Chan} (hk : (s.cfg k).parent = some c) :
    ((s.cascade c).ctl k).state.charged = false :=
  (foldl_uncharges (f := fun k u => u.stop .parentLost k) (fun j u => stopTree_stopped _ _ j u)
    (fun j u => chargesNobody_stopTree _ _ j u) _ _).2 k ((State.mem_children s c k).2 hk)

/-! ### LATCHED channels under a recomputation -/

theorem Turned.of_latched {f : ChannelConfig} {k k' : Controller} (h : Turned f k k') (hl : k.state = .latched) :
    k' = { k with demand := k'.demand } := by
  cases h with
  | arrived => simp [Controller.arrived, hl]
  | lost => simp [Controller.lost, hl]
  | stopped hc => rw [hl] at hc; cases hc

/-- Of a LATCHED controller a small step moves the demand item alone. -/
theorem Bit.latched_ctl {s t : State} (h : Bit s t) {c : Chan} (hl : (s.ctl c).state = .latched) :
    t.ctl c = { s.ctl c with demand := (t.ctl c).demand } := by
  rcases h.cases_turns with h | ⟨j, rfl⟩ | ⟨j, k, ht, hk⟩ | ⟨r, v, -, hv, rfl⟩
  · rw [h.ctl]
  · rw [reprioritize_ctl]
  · by_cases e : c = j
    · subst e
      rw [ht.ctl_self]
      exact hk.of_latched hl
    · rw [ht.ctl_ne e]
  · rw [stops_ctl fun x hx e => ?_]
    have hclosed := hv x hx
    rw [e, hl] at hclosed
    cases hclosed

theorem Bits.latched_ctl {s t : State} (h : Bits s t) {c : Chan} (hl : (s.ctl c).state = .latched) :
    t.ctl c = { s.ctl c with demand := (t.ctl c).demand } :=
  h.keeps (P := fun t => t.ctl c = { s.ctl c with demand := (t.ctl c).demand })
    (fun hb hx => by
      have := hb.latched_ctl (c := c) (by rw [hx]; exact hl)
      rw [this, hx]) rfl

/-! ### Records at the tail of a queue -/

theorem State.logicalOf_eq {s t : State} (h : t.config = s.config) (g : HostId) (c : Chan) :
    t.logicalOf g c = s.logicalOf g c := by
  unfold State.logicalOf State.viewEntry
  rw [h]

theorem KeepsTables.tagOf {s t : State} (h : KeepsTables s t) (g : HostId) (c : Chan) : t.tagOf g c = s.tagOf g c := by
  unfold State.tagOf State.claimOf
  rw [h.claims]

theorem KeepsTables.receives {s t : State} (h : KeepsTables s t) (g : HostId) (c : Chan) :
    t.receives g c = s.receives g c := by
  unfold State.receives State.claimsActively State.viewEntry State.port State.claimOf
  rw [State.logicalOf_eq h.config, h.config, h.ports, h.claims]

theorem KeepsTables.channelRecord {s t : State} (h : KeepsTables s t) (g : HostId) (c : Chan) (x : Report)
    (k : ChannelState) : channelRecord t g c x k = channelRecord s g c x k := by
  unfold Machine.channelRecord
  rw [State.logicalOf_eq h.config, h.tagOf, h.deviceTime]

/-- What a channel record does to the queues. -/
theorem reportChannel_noticesOf (s : State) (c : Chan) (x : Report) (g : HostId) :
    (s.reportChannel c x).noticesOf g = if s.receives g c then
      appendNotice (s.noticesOf g) (channelRecord s g c x (s.ctl c).state) else s.noticesOf g :=
  State.deliver_noticesOf s _ _ g

/-- A record given first is the next in its queue, whatever follows. -/
theorem nextRecord_of_append {s t u : State} {g : HostId} {n : Notice} (hn : n.lostAfter = false)
    (h : t.noticesOf g = appendNotice (s.noticesOf g) n) (hu : QueuesGrow t u) : NextRecord s u g n := by
  intro hroom
  obtain ⟨more, hmore, -⟩ := hu g
  refine ⟨more, ?_⟩
  have hflag : n.unflagged = n := by
    unfold Notice.unflagged
    rw [← hn]
  rw [hmore, h, appendNotice_unflagged, if_pos hroom, hflag, List.append_assoc]
  rfl

/-! ### The stop -/

theorem stopped_fields (k : Controller) (f : ChannelConfig) :
    (k.stopped f).chargedRail = none ∧ (k.stopped f).sub = .noSub ∧ (k.stopped f).softStart = none ∧
      (k.stopped f).blanking = none ∧ (k.stopped f).stable = none ∧ (k.stopped f).deadTime = none ∧
      (k.stopped f).discharge = startTimer f.dischargeTime ∧ (k.stopped f).lastFault = k.lastFault := by
  unfold Controller.stopped Controller.waitEnded
  split
  · split <;> exact ⟨rfl, rfl, rfl, rfl, rfl, rfl, rfl, rfl⟩
  · exact ⟨rfl, rfl, rfl, rfl, rfl, rfl, rfl, rfl⟩

theorem stopped_state (k : Controller) (f : ChannelConfig) : (k.stopped f).state =
    if f.dischargeTime ≠ 0 then .stopping
    else if k.demand = true ∧ f.admin = .enabled then .queued else .off := by
  have hw : (k.halted f).wantedBy f = (k.demand && f.admin = .enabled) := rfl
  unfold Controller.stopped Controller.waitEnded Controller.rested
  rw [hw]
  by_cases hd : f.dischargeTime = 0
  · by_cases hx : k.demand = true ∧ f.admin = .enabled
    · simp [hd, hx]
    · have hb : (k.demand && decide (f.admin = .enabled)) = false := by simpa using hx
      simp [hd, hb, hx]
  · simp [hd, Controller.halted]

theorem stopped_retryCount {k : Controller} {f : ChannelConfig} (h : (k.stopped f).state ≠ .off) :
    (k.stopped f).retryCount = k.retryCount := by
  unfold Controller.stopped Controller.waitEnded at *
  by_cases hd : f.dischargeTime = 0
  · by_cases hw : (k.halted f).wantedBy f = true
    · rw [if_pos hd, if_pos hw]
      rfl
    · rw [if_pos hd, if_neg hw] at h
      exact absurd (by simp [Controller.rested, hw]) h
  · rw [if_neg hd]
    rfl

/-- What a stop leaves of its channel's queue records: STOPPED comes first. -/
theorem stopOne_noticesOf (s : State) (cause : StopCause) (c : Chan) (g : HostId) (h : s.receives g c = true) :
    (s.stopOne cause c).noticesOf g = appendNotice (s.noticesOf g)
      (channelRecord s g c (.stopped cause (s.ctl c).chargedRail) ((s.ctl c).stopped (s.cfg c)).state) := by
  have hctl : ((s.stopOne cause c).ctl c).state = ((s.ctl c).stopped (s.cfg c)).state := by
    rw [stopOne_ctl, if_pos rfl]
  unfold State.stopOne at hctl ⊢
  dsimp only at hctl ⊢
  have hfirst (k : Controller) : Moves s (((s.uncharge c).quiet c).setCtl c k) :=
    ((moves_uncharge s c).trans (moves_quiet _ c)).trans (moves_setCtl _ c _)
  have hbefore (k : Controller) : Moves s (if (s.cfg c).dischargeTime = 0 then
      (((s.uncharge c).quiet c).setCtl c k).endWait c else ((s.uncharge c).quiet c).setCtl c k) := by
    split
    · exact (hfirst k).trans (moves_endWait _ c)
    · exact hfirst k
  have hnotices (k : Controller) : (if (s.cfg c).dischargeTime = 0 then
      (((s.uncharge c).quiet c).setCtl c k).endWait c else ((s.uncharge c).quiet c).setCtl c k).noticesOf g =
      s.noticesOf g := by
    split
    · rw [State.noticesOf, endWait_notices]
      rfl
    · rfl
  rw [(sameCore_reportChannel _ c _).ctl] at hctl
  rw [reportChannel_noticesOf, (hbefore _).kept.receives, if_pos h, (hbefore _).kept.channelRecord, hctl, hnotices]

theorem stopTaken_stop (s : State) (cause : StopCause) (c : Chan) : StopTaken s (s.stop cause c) c cause := by
  have hctl := stop_ctl_self s cause c
  obtain ⟨hrail, hsub, hsoft, hblank, hstable, hdead, hdischarge, hfault⟩ := stopped_fields (s.ctl c) (s.cfg c)
  have hbits := bits_stopTree treeDepth cause c s
  refine ⟨?_, ?_, ?_, ?_, ?_, ?_, ?_, ?_, ?_, ?_, ?_, uncharged_stop s cause c, fun ho k hk => stop_children cause ho hk,
    fun g hg => ?_, (moves_stop s cause c).kept, (moves_stop s cause c).grown⟩
  · rw [hctl, stopped_state]
  · rw [hctl, hrail]
  · rw [hctl, hsub]
  · rw [hctl, hsoft]
  · rw [hctl, hblank]
  · rw [hctl, hstable]
  · rw [hctl, hdead]
  · rw [hctl, hdischarge]; rfl
  · rw [hctl, hfault]
  · rw [hctl]; exact stopped_retryCount
  · refine hbits.isQuiet (j := c) ?_
    rw [stopOne_sen, if_pos rfl]
    exact ⟨rfl, rfl, rfl⟩
  · rw [hctl]
    exact nextRecord_of_append rfl (stopOne_noticesOf s cause c g hg) hbits.moves.grown

/-! ### The fault -/

theorem faultOne_noticesOf (s : State) (cause : FaultCause) (c : Chan) (g : HostId) (h : s.receives g c = true) :
    (s.faultOne cause c).noticesOf g = appendNotice (s.noticesOf g) (channelRecord s g c
      (.faulted cause ((s.ctl c).retryCount + 1) ((s.cfg c).retryLimit < (s.ctl c).retryCount + 1))
      ((s.ctl c).faulted (s.cfg c) cause).state) := by
  unfold State.faultOne
  have hbefore : Moves s (((s.uncharge c).quiet c).setCtl c ((s.ctl c).faulted (s.cfg c) cause)) :=
    ((moves_uncharge s c).trans (moves_quiet _ c)).trans (moves_setCtl _ c _)
  rw [reportChannel_noticesOf, hbefore.kept.receives, if_pos h, hbefore.kept.channelRecord, State.ctl_setCtl]
  rfl

theorem uncharged_faultOne (s : State) (cause : FaultCause) (c : Chan) : Uncharged (s.faultOne cause c) c := by
  intro r x hx
  have hacc : (s.faultOne cause c).account r = (s.account r).without c := account_uncharge s c r
  rw [hacc, mem_without] at hx
  exact hx.2

theorem faultOne_ctl (s : State) (cause : FaultCause) (c : Chan) :
    (s.faultOne cause c).ctl c = (s.ctl c).faulted (s.cfg c) cause := by
  unfold State.faultOne
  rw [(sameCore_reportChannel _ c _).ctl, State.ctl_setCtl]

theorem faultCascade_ctl (s : State) (cause : FaultCause) (c : Chan) :
    (s.faultCascade cause c).ctl c = (s.ctl c).faulted (s.cfg c) cause := by
  unfold State.faultCascade
  split
  · rw [cascade_ctl (by rw [faultOne_ctl]; exact faulted_charged _ _ _), faultOne_ctl]
  · exact faultOne_ctl s cause c

theorem faultCascade_children {s : State} (cause : FaultCause) {c k : Chan} (ho : (s.ctl c).state = .isOn)
    (hk : (s.cfg k).parent = some c) : ((s.faultCascade cause c).ctl k).state.charged = false := by
  unfold State.faultCascade
  rw [if_pos ho]
  refine cascade_children ?_
  rwa [(moves_faultOne s cause c).cfg]

/-- What the recomputation of a fault that latches leaves of the channel: all but the demand item. -/
theorem fault_ctl (s : State) (cause : FaultCause) (c : Chan) : (s.fault cause c).ctl c =
    { (s.ctl c).faulted (s.cfg c) cause with demand := ((s.fault cause c).ctl c).demand } := by
  rw [fault_eq]
  split
  next hlatch =>
    have hctl : (s.faultCascade cause c).valued.ctl c = (s.ctl c).faulted (s.cfg c) cause := by
      rw [valued_ctl, faultCascade_ctl]
    have h := (bits_recompute (s.faultCascade cause c)).latched_ctl (c := c) (by
      rw [hctl]; simp [Controller.faulted, hlatch])
    rwa [hctl] at h
  next => rw [faultCascade_ctl]

theorem Bits.children {s t : State} (h : Bits s t) {k : Chan} (hk : (s.ctl k).state.charged = false) :
    (t.ctl k).state.charged = false := h.chargesNobody k hk

theorem faultTaken_fault (s : State) (cause : FaultCause) (c : Chan) : FaultTaken s (s.fault cause c) c cause := by
  have hctl := fault_ctl s cause c
  have hcascade := bits_faultCascade s cause c
  -- the recomputation of a fault that latches, with whatever small steps keep
  have after {P : State → Prop} (hv : ∀ u : State, P u → P u.valued) (hb : ∀ {u v : State}, Bits u v → P u → P v)
      (h : P (s.faultCascade cause c)) : P (s.fault cause c) := by
    rw [fault_eq]
    split
    · exact hb (bits_recompute _) (hv _ h)
    · exact h
  refine ⟨?_, ?_, ?_, ?_, ?_, ?_, ?_, ?_, ?_, ?_, ?_, ?_, fun ho k hk => ?_, fun g hg => ?_, (moves_fault s cause c).kept,
    (moves_fault s cause c).grown⟩
  · rw [hctl]; rfl
  · rw [hctl]
    by_cases hx : (s.ctl c).retryCount + 1 ≤ (s.cfg c).retryLimit
    · simp [Controller.faulted, hx, Nat.not_lt.2 hx]
    · simp [Controller.faulted, hx, Nat.lt_of_not_le hx]
  · rw [hctl]; rfl
  · rw [hctl]; rfl
  · rw [hctl]; rfl
  · rw [hctl]; rfl
  · rw [hctl]; rfl
  · rw [hctl]; rfl
  · rw [hctl]; rfl
  · rw [hctl]
    by_cases hx : (s.ctl c).retryCount + 1 ≤ (s.cfg c).retryLimit
    · simp [Controller.faulted, hx, Nat.not_lt.2 hx, backoffTime]
    · simp [Controller.faulted, hx, Nat.lt_of_not_le hx]
  · refine after (P := fun u => (u.sen c).IsQuiet) (fun u hu => hu) (fun hb hu => hb.isQuiet hu)
      (hcascade.isQuiet ?_)
    have hsen : (s.faultOne cause c).sen c = (s.sen c).quieted := State.sen_setSen _ c _
    rw [hsen]
    exact ⟨rfl, rfl, rfl⟩
  · refine after (P := fun u => Uncharged u c) (fun u hu => hu) (fun hb hu => hb.shrinks.uncharged hu)
      (hcascade.shrinks.uncharged (uncharged_faultOne s cause c))
  · exact after (P := fun u => (u.ctl k).state.charged = false) (fun u hu => by rwa [valued_ctl])
      (fun hb hu => hb.children hu) (faultCascade_children cause ho hk)
  · have hstate : ((s.fault cause c).ctl c).state = ((s.ctl c).faulted (s.cfg c) cause).state := by rw [hctl]
    rw [hstate]
    refine nextRecord_of_append rfl (faultOne_noticesOf s cause c g hg) (after (P := fun u => Moves
      (s.faultOne cause c) u) (fun u hu => hu.trans (moves_valued u)) (fun hb hu => hu.trans hb.moves) hcascade.moves).grown

/-- The same fault seen from a state before, in which the count stood so, and the channel in ON only if it still did. -/
theorem FaultTaken.from_before {s t u : State} {c : Chan} {cause : FaultCause} (h : FaultTaken t u c cause)
    (hm : Moves s t) (hn : t.notices = s.notices) (hcount : (t.ctl c).retryCount = (s.ctl c).retryCount)
    (hon : (s.ctl c).state = .isOn → (t.ctl c).state = .isOn) : FaultTaken s u c cause := by
  obtain ⟨h1, h2, h3, h4, h5, h6, h7, h8, h9, h10, h11, h12, h13, h14, h15, h16⟩ := h
  rw [hcount] at h1
  rw [hcount, hm.cfg] at h2 h10
  rw [hm.cfg] at h9
  refine ⟨h1, h2, h3, h4, h5, h6, h7, h8, h9, h10, h11, h12, fun ho k hk => h13 (hon ho) k ?_, fun g hg hroom => ?_,
    hm.kept.trans h15, (hm.trans ⟨h15, h16⟩).grown⟩
  · rwa [hm.cfg]
  · have hnotices : t.noticesOf g = s.noticesOf g := by rw [State.noticesOf, State.noticesOf, hn]
    have htold := h14 g (by rwa [hm.kept.receives]) (by rwa [hnotices])
    rwa [hm.kept.channelRecord, hcount, hm.cfg, hnotices] at htold

end Sys2Proof.Machine
end

section
/-! PROOFS. Stops, trips, timers: the events of one controller and of one rail monitor. -/

namespace Sys2Proof.Machine

/-! ### The stop -/

theorem railSwitch_of_uncharged {s : State} {c : Chan} (h : (s.ctl c).state.charged = false) (r : Rail) :
    s.railSwitch c r = false := by
  have hclosed : (s.ctl c).state.closed = false :=
    eq_false_of_ne_true fun e => by rw [ChannelState.charged_of_closed e] at h; cases h
  simp [State.railSwitch, hclosed]

theorem closed_iff (x : ChannelState) : x.closed = true ↔ x = .softstart ∨ x = .isOn := by
  cases x <;> simp [ChannelState.closed]

/-- Settles O49: the stop's own first step, which its cascade leaves, and R50's table by cases. -/
theorem stopReturnsTheCharge : Obligations.StopReturnsTheCharge := by
  refine ⟨fun c cause s _ => ⟨stopTaken_stop s cause c, railSwitch_of_uncharged ?_⟩, fun c s hl => ⟨fun r => ?_, ?_⟩⟩
  · rw [stop_ctl_self]
    exact stopped_charged _ _
  · simp [State.railSwitch, hl, closed_iff]
  · unfold State.dischargeSwitch
    cases hs : (s.ctl c).state <;> simp [hl, Option.isSome_iff_ne_none]

/-! ### Trips and the soft-start timeout -/

theorem takesTrip_iff (s : State) (c : Chan) : s.takesTrip c = true ↔
    ((∃ k, (s.cfg c).faultSource = .senseXf k) ∨ (s.cfg c).faultSource = .sense) ∧
      ((s.ctl c).state = .isOn ∨ (s.ctl c).state = .softstart ∧ (s.ctl c).sub = .ramp) := by
  unfold State.takesTrip senses
  cases (s.cfg c).faultSource <;> cases (s.ctl c).state <;> simp

/-- The Sense Unit's items are none of what the Budget Arbiter reads. -/
@[simp] theorem settle_setSen (s : State) (c : Chan) (x : ChannelSense) : State.settle s (s.setSen c x) = s.setSen c x :=
  if_pos rfl

theorem exec_tripEvent {s : State} {c : Chan} (hl : s.isLoading = false) (hp : (s.sen c).tripPassed = true) :
    exec (.tripEvent c) s = .next (State.settle s (if s.takesTrip c then
      (s.setSen c { s.sen c with tripPassed := false }).fault .overcurrent c
      else s.setSen c { s.sen c with tripPassed := false })) := by
  simp only [exec, execTripEvent, hl, State.takeTrip, hp, Bool.false_eq_true, if_false, if_true]

/-- Settles O40: a passed trip is taken or dropped with its flag, and a timeout is taken by state alone. -/
theorem tripsAndTimeoutsAreFaults : Obligations.TripsAndTimeoutsAreFaults := by
  intro c s hl
  refine ⟨fun hp => ⟨fun hsrc hst => ?_, fun ho hr => ?_, fun hn hx => ?_⟩, fun hz hst => ?_⟩
  · rw [exec_tripEvent hl hp, if_pos ((takesTrip_iff s c).2 ⟨hsrc, hst⟩)]
    exact ⟨_, rfl, (faultTaken_fault _ _ c).from_before (moves_setSen s c _) rfl rfl id⟩
  · have hno : ¬ s.takesTrip c = true := by
      rw [takesTrip_iff]
      rintro ⟨-, h | ⟨h1, h2⟩⟩
      · exact ho h
      · exact hr.elim (absurd h1) (absurd h2)
    rw [exec_tripEvent hl hp, if_neg hno, settle_setSen]
  · have hno : ¬ s.takesTrip c = true := by
      rw [takesTrip_iff]
      rintro ⟨⟨k, h⟩ | h, -⟩
      · exact hx k h
      · exact hn h
    rw [exec_tripEvent hl hp, if_neg hno, settle_setSen]
  · refine ⟨_, ?_, (faultTaken_fault (s.setCtl c { s.ctl c with softStart := none }) .softstartTimeout c).from_before
      (moves_setCtl s c _) rfl (by rw [State.ctl_setCtl]) (by rw [hst]; exact nofun)⟩
    simp [exec, execSoftStartExpiry, hl, hz, State.takeSoftStart, hst]

/-! ### Timers -/

/-- The end of a wait, field by field (R54, R55, R67, R106). -/
theorem endWait_eq (s : State) (c : Chan) (k : Controller) : (s.setCtl c k).endWait c =
    if k.demand = true ∧ (s.cfg c).admin = .enabled then
      { s.setCtl c { k with state := .queued } with
        queue := insertBy QueueEntry.precedes ⟨c, (s.dem c).priority, s.admissionCounter⟩ s.queue
        admissionCounter := s.admissionCounter + 1 }
    else s.setCtl c { k with state := .off, retryCount := 0, chargedRail := none } := by
  have hw : (s.setCtl c k).wanted c = (k.demand && decide ((s.cfg c).admin = .enabled)) := wanted_setCtl s c k
  by_cases hx : k.demand = true ∧ (s.cfg c).admin = .enabled
  · have hb : (k.demand && decide ((s.cfg c).admin = .enabled)) = true := by simpa using hx
    rw [if_pos hx, State.endWait, hw, if_pos hb]
    unfold State.enterQueued State.enqueue
    rw [State.ctl_setCtl, setCtl_setCtl]
    rfl
  · have hb : (k.demand && decide ((s.cfg c).admin = .enabled)) = false := by simpa using hx
    have hw' : ((s.setCtl c k).setCtl c { k with state := .off, retryCount := 0, chargedRail := none }).wanted c =
        false := by
      rw [setCtl_setCtl, wanted_setCtl]
      exact hb
    rw [if_neg hx, State.endWait, hw, hb, if_neg (by simp)]
    unfold State.enterOff
    dsimp only
    rw [State.ctl_setCtl, hw', if_neg (by simp), setCtl_setCtl]

theorem undischarged_eq {k : Controller} (h : k.backoff = none) :
    { k with discharge := none } = { k with discharge := none, backoff := none } := by
  cases k
  cases h
  rfl

theorem unbacked_eq {k : Controller} (h : k.discharge = none) :
    { k with backoff := none } = { k with discharge := none, backoff := none } := by
  cases k
  cases h
  rfl

/-- Settles O43: each expiry by the channel's state, the ends of the waits through `endWait`. -/
theorem channelTimersExpire : Obligations.ChannelTimersExpire := by
  intro c s hl stopped queued off ended
  have hended {k : Controller} (hk : k = stopped) : (s.setCtl c k).endWait c = ended := by
    rw [hk, endWait_eq]
  refine ⟨fun hz hs => ?_, fun hz hs => ?_, fun hz hb hs => ?_, fun hz hd hs => ?_, fun hz hs hb => ?_,
    fun hz hs hd => ?_, fun hz hs => ?_⟩
  · simp [exec, execBlankingExpiry, hl, hz, State.takeBlanking, hs]
  · simp [exec, execStableExpiry, hl, hz, State.takeStable, hs]
  · have hk : ({ s.ctl c with discharge := none } : Controller) = stopped := undischarged_eq hb
    have htake : s.takeDischarge c = State.settle s ((s.setCtl c { s.ctl c with discharge := none }).endWait c) := by
      unfold State.takeDischarge
      rcases hs with e | e <;> simp [e, hb]
    rw [← hended hk, ← htake]
    simp [exec, execDischargeExpiry, hl, hz]
  · have hk : ({ s.ctl c with backoff := none } : Controller) = stopped := unbacked_eq hd
    rw [← hended hk]
    simp [exec, execBackoffExpiry, hl, hz, State.takeBackoff, hs, hd]
  · simp [exec, execDischargeExpiry, hl, hz, State.takeDischarge, hs, Option.isSome_iff_ne_none, hb]
  · simp [exec, execBackoffExpiry, hl, hz, State.takeBackoff, hs, hd]
  · have htake : s.takeDischarge c = s.setCtl c { s.ctl c with discharge := none } := by
      unfold State.takeDischarge
      rcases hs with e | e <;> simp [e]
    rw [← htake]
    simp [exec, execDischargeExpiry, hl, hz]

/-! ### The dead time and the restore time -/

theorem entryFault_forced {s : State} {c : Chan} (h : (s.cfg c).faultSource = .forced) :
    s.entryFault c = some .forced := by simp [State.entryFault, h]

theorem entryFault_line {s : State} {c : Chan} {k : LineId}
    (h : (s.cfg c).faultSource = .xf k ∨ (s.cfg c).faultSource = .senseXf k) (hx : look s.xf k = true) :
    s.entryFault c = some .external := by
  rcases h with h | h <;> simp [State.entryFault, h, hx]

theorem exec_deadTimeExpiry {s : State} {c : Chan} (hl : s.isLoading = false) (hz : (s.ctl c).deadTime = some 0)
    (hs : (s.ctl c).state = .switchover) : exec (.deadTimeExpiry c) s = .next (State.settle s
      (match s.entryFault c with
      | some cause => (s.startSoft c).fault cause c
      | none => s.startSoft c)) := by
  have hstart : (s.setCtl c { s.ctl c with deadTime := none }).startSoft c = s.startSoft c := by
    unfold State.startSoft
    rw [State.ctl_setCtl, setCtl_setCtl]
    rfl
  have hentry : (s.setCtl c { s.ctl c with deadTime := none }).entryFault c = s.entryFault c := rfl
  have htake : s.takeDeadTime c =
      State.settle s ((s.setCtl c { s.ctl c with deadTime := none }).enterSoftstart c) := by
    unfold State.takeDeadTime
    rw [if_pos hs]
  rw [enterSoftstart_eq, hstart, hentry] at htake
  have hexec : exec (.deadTimeExpiry c) s = .next (s.takeDeadTime c) := by
    simp [exec, execDeadTimeExpiry, hl, hz]
  refine hexec.trans (congrArg _ (htake.trans (congrArg _ ?_)))
  cases s.entryFault c <;> rfl

/-- The fault that an entry to SOFTSTART takes at once, seen from SWITCHOVER. -/
theorem faultTaken_startSoft {s : State} {c : Chan} (cause : FaultCause) (hs : (s.ctl c).state = .switchover) :
    FaultTaken s ((s.startSoft c).fault cause c) c cause :=
  (faultTaken_fault _ cause c).from_before (moves_setCtl s c _) rfl
    (by rw [State.startSoft, State.ctl_setCtl]; rfl) (by rw [hs]; exact nofun)

/-- Settles O44: the entry to SOFTSTART with its entry check, the charge as it stands. -/
theorem deadTimeEndsInSoftStart : Obligations.DeadTimeEndsInSoftStart := by
  intro c s hl hz hs
  have hexec := exec_deadTimeExpiry hl hz hs
  refine ⟨fun hn => ?_, fun hf => ?_, fun k hk hx => ?_⟩
  · rw [hn] at hexec
    exact hexec
  · rw [entryFault_forced hf] at hexec
    exact ⟨_, hexec, faultTaken_startSoft .forced hs⟩
  · rw [entryFault_line hk hx] at hexec
    exact ⟨_, hexec, faultTaken_startSoft .external hs⟩

/-- The record of a rail, and whom it reaches (R116, R169). -/
def railRecord (s : State) (x : Report) : Notice :=
  { report := x, logical := none, newState := none, tag := 0, time := s.deviceTime, lostAfter := false }

theorem reportRail_noticesOf (s : State) (x : Report) (g : HostId) : (s.reportRail x).noticesOf g =
    if (s.port g).session = .opened then appendNotice (s.noticesOf g) (railRecord s x) else s.noticesOf g := by
  unfold State.reportRail
  rw [State.deliver_noticesOf]
  simp only [decide_eq_true_eq]
  rfl

/-- Settles O45: the monitor alone moves, and RAIL goes to every OPEN host. -/
theorem restoreExpiryBringsTheRailUp : Obligations.RestoreExpiryBringsTheRailUp := by
  intro r s hl hz hs
  refine ⟨(s.setRail r { s.rail r with state := .up, restoreTimer := none }).reportRail (.railUp r), ?_, ?_, ?_,
    fun g => ?_, rfl⟩
  · simp [exec, execRestoreExpiry, hl, hz, hs, State.qualifyRail]
  · exact State.rail_setRail s r _
  · have h := State.rail_setRail_of s r r.other { s.rail r with state := .up, restoreTimer := none }
    rwa [if_neg r.other_ne] at h
  · exact reportRail_noticesOf _ _ g

end Sys2Proof.Machine
end

section
/-! PROOFS. Enable and detach events. -/

namespace Sys2Proof.Machine

/-! ### A demand loss is handed on -/

theorem demandLoss_uncharged (s : State) (c : Chan) : ((s.demandLoss c).ctl c).state.charged = false := by
  by_cases hc : (s.ctl c).state.charged = true
  · rw [demandLoss_of_charged hc, stop_ctl_self]
    exact stopped_charged _ _
  · rw [(turns_demandLoss (by simpa using hc)).ctl_self]
    exact lost_charged _ _

theorem handOn_loss_uncharged {s : State} {old : Demand} {c : Chan} (ho : old.effective = true)
    (hn : (s.dem c).effective = false) : ((s.handOn old c).ctl c).state.charged = false := by
  have e : s.handOn old c = s.demandLoss c := by rw [State.handOn, ho, hn]
  rw [e]
  exact demandLoss_uncharged s c

theorem recompute_dem (s : State) (c : Chan) : s.recompute.dem c = s.demandNow c := by
  rw [State.dem, (bits_recompute s).demand]
  exact valued_dem s c

/-- In a forest a channel that had demand and has lost it is charged no more (R16, R61, R64). -/
theorem recompute_loss {s : State} (hf : ForestLaw s.config) {c : Chan} (ho : (s.dem c).effective = true)
    (hn : (s.demandNow c).effective = false) : (s.recompute.ctl c).state.charged = false := by
  rw [recompute_eq]
  let P (l : List Chan) (u : State) : Prop :=
    u.demand = s.valued.demand ∧ (c ∈ l ∨ (u.ctl c).state.charged = false)
  have hstart : P s.todo s.valued :=
    ⟨rfl, .inl ((mem_todo s c).2 (changed_of_effective_ne (by rw [ho, hn]; decide)))⟩
  have hend := inFreeOrder_drains (P := P) (lowest_subset s) (fun l hl => lowest_ne_nil hf hl)
    (f := fun c u => u.handOn (s.dem c) c) (fun l x t _ ht => ?step) (fun l t ht => ht) s.todo.length s.todo
    s.valued (Nat.le_refl _) hstart
  case step =>
    obtain ⟨hd, hc⟩ := ht
    have hbits := bits_handOn t (s.dem x) x
    refine ⟨hbits.demand.trans hd, ?_⟩
    rcases hc with hc | hc
    · by_cases hcx : c = x
      · subst hcx
        refine .inr (handOn_loss_uncharged ho ?_)
        rw [State.dem, hd, show look s.valued.demand c = s.valued.dem c from rfl, valued_dem, hn]
      · exact .inl ((List.mem_erase_of_ne hcx).2 hc)
    · exact .inr (hbits.chargesNobody c hc)
  exact hend.2.resolve_left (List.not_mem_nil)

/-! ### Enable events -/

/-- Settles O41: the line written, then the recomputation. -/
theorem enableEventChangesTheLevel : Obligations.EnableEventChangesTheLevel := by
  intro k s hl hrun
  have htake : s.takeEnable k = (s.setLine k ⟨!(s.line k).qualified, 0⟩).recompute := if_pos hrun
  have hm := moves_takeEnable s k hrun
  refine ⟨s.takeEnable k, by simp [exec, execEnableEvent, hl], fun j => ?_, fun c => ?_, ?_, hm.grown⟩
  · rw [State.line, hm.kept.enables]
    exact State.line_setLine_of s k j _
  · rw [htake]
    exact formulaic_recompute _ c
  · exact ⟨hm.kept.pm, hm.kept.deviceTime, hm.kept.config, hm.kept.lock, hm.kept.ports, hm.kept.claims, hm.kept.xf,
      rfl, hm.kept.rails, hm.kept.pending⟩

/-! ### Detach events -/

/-- The detach flag taken down. -/
def State.detachSeen (s : State) (c : Chan) : State := s.setSen c { s.sen c with detachPassed := false }

theorem takeDetach_eq {s : State} {c : Chan} (h : (s.sen c).detachPassed = true) : s.takeDetach c =
    if (s.ctl c).state = .isOn then
      match (s.cfg c).detachAction with
      | .notify => (s.detachSeen c).reportChannel c (.detached .notify)
      | .release => ((s.detachSeen c).reportChannel c (.detached .release)).dropReported (fun k _ => k = c) .detached
    else s.detachSeen c := by
  unfold State.takeDetach
  rw [if_pos h]
  dsimp only
  split
  · cases (s.cfg c).detachAction <;> rfl
  · rfl

theorem reportDetached_noticesOf (s : State) (c : Chan) (x : DetachAction) (ho : (s.ctl c).state = .isOn) (g : HostId) :
    ((s.detachSeen c).reportChannel c (.detached x)).noticesOf g = if s.receives g c = true then
      appendNotice (s.noticesOf g) (channelRecord s g c (.detached x) .isOn) else s.noticesOf g := by
  have hm : Moves s (s.detachSeen c) := moves_setSen s c _
  have hctl : (s.detachSeen c).ctl c = s.ctl c := rfl
  have hn : (s.detachSeen c).noticesOf g = s.noticesOf g := rfl
  rw [reportChannel_noticesOf, hm.kept.receives, hm.kept.channelRecord, hctl, ho, hn]

/-- Settles O42: the record first; with RELEASE the drop and its recomputation. -/
theorem detachNotifiesOrReleases : Obligations.DetachNotifiesOrReleases := by
  intro c s hl hp seen
  have hexec : exec (.detachEvent c) s = .next (State.settle s (s.takeDetach c)) := by
    simp [exec, execDetachEvent, hl]
  have htake := takeDetach_eq hp
  have hseen : seen = s.detachSeen c := rfl
  refine ⟨fun ho => ?_, fun ho hn => ?_, fun ho hr => ?_⟩
  · rw [if_neg ho] at htake
    rw [hexec, htake, hseen]
    exact congrArg _ (settle_setSen s c _)
  · rw [if_pos ho, hn] at htake
    have hrest : State.settle s ((s.detachSeen c).reportChannel c (.detached .notify)) =
        (s.detachSeen c).reportChannel c (.detached .notify) := if_pos rfl
    exact ⟨_, by rw [hexec, htake]; exact congrArg _ hrest, rfl, reportDetached_noticesOf s c .notify ho⟩
  · rw [if_pos ho, hr] at htake
    dsimp only at htake
    have hreport : Moves s ((s.detachSeen c).reportChannel c (.detached .release)) :=
      (moves_setSen s c _).trans (moves_reportChannel _ c _)
    have hcore : SameCore s ((s.detachSeen c).reportChannel c (.detached .release)) :=
      (sameCore_setSen s c _).trans (sameCore_reportChannel _ c _)
    have hnotices := reportDetached_noticesOf s c .release ho
    set told := (s.detachSeen c).reportChannel c (.detached .release) with htold
    have hdrop := moves_dropReported told (fun k _ => decide (k = c)) .detached
    have hm := (moves_removeClaims hreport fun k _ => decide (k = c)).trans hdrop
    refine ⟨told.dropReported (fun k _ => decide (k = c)) .detached, by rw [hexec, htake], fun k g => ?_, fun k => ?_,
      fun g hg => ?_, fun hf he hn => ?_, ?_, ?_⟩
    · rw [hm.claimOf, State.removeClaims_claimOf]
      simp only [decide_eq_true_eq]
    · rw [dropReported_eq]
      exact formulaic_recompute _ k
    · refine nextRecord_of_append (t := told) rfl (by rw [hnotices, if_pos hg]) ?_
      have hgrown := hdrop.grown
      exact hgrown
    · have hbeside := (beside_dropped told (fun k _ => decide (k = c)) .detached).core
      rw [dropReported_eq] at hn ⊢
      refine recompute_loss (by rw [hbeside.config, hcore.config]; exact hf)
        (by rw [hbeside.dem, hcore.dem]; exact he) ?_
      rwa [recompute_dem] at hn
    · exact ⟨hm.kept.pm, hm.kept.deviceTime, hm.kept.config, hm.kept.lock, hm.kept.ports, rfl, hm.kept.xf,
        hm.kept.enables, hm.kept.rails, hm.kept.pending⟩
    · exact hm.grown

end Sys2Proof.Machine
end

section
/-! PROOFS. Samples: what each event of the Sense Unit writes, and what all of them together leave of a sample. -/

namespace Sys2Proof.Machine

/-! ### The measured currents -/

/-- The measured currents stand. -/
def Measures (s t : State) : Prop := ∀ c, (t.sen c).measured = (s.sen c).measured

theorem Measures.refl (s : State) : Measures s s := fun _ => rfl

theorem Measures.trans {s t u : State} (h : Measures s t) (k : Measures t u) : Measures s u :=
  fun c => (k c).trans (h c)

theorem Measures.of_sense {s t : State} (h : t.sense = s.sense) : Measures s t := fun c => by rw [sen_of_sense h]

theorem measures_setSen {s : State} {c : Chan} {x : ChannelSense} (h : x.measured = (s.sen c).measured) :
    Measures s (s.setSen c x) := fun j => by
  rw [State.sen_setSen_of]
  split
  next e => rw [e, h]
  next => rfl

theorem measures_stopOne (s : State) (cause : StopCause) (c : Chan) : Measures s (s.stopOne cause c) := fun j => by
  rw [stopOne_sen]
  split
  next e => rw [e]; rfl
  next => rfl

theorem Bit.measures {s t : State} (h : Bit s t) : Measures s t := by
  cases h with
  | draw n => exact .refl s
  | arrived c _ => exact .of_sense (demandArrival_sense s c)
  | lost c hc _ => exact .of_sense (demandLoss_sense hc)
  | released c _ _ => exact measures_stopOne (s.setCtl c (s.ctl c).itemless) _ _
  | reprioritized c => rw [reprioritize_frame]; exact .refl s
  | stopped cause c _ => exact measures_stopOne s _ _
  | shed r v _ _ => exact foldl_keeps (P := Measures s) (fun t x ht => ht.trans (measures_stopOne t _ _)) v (.refl s)

theorem Bits.measures {s t : State} (h : Bits s t) : Measures s t :=
  h.keeps (P := Measures s) (fun hb h => h.trans hb.measures) (.refl s)

theorem measures_quiet (s : State) (c : Chan) : Measures s (s.quiet c) := measures_setSen rfl

theorem measures_faultOne (s : State) (cause : FaultCause) (c : Chan) : Measures s (s.faultOne cause c) :=
  measures_quiet (s.uncharge c) c

theorem Act.measures {s t : State} (h : Act s t) : Measures s t := by
  cases h with
  | bit hb => exact hb.measures
  | valued => exact .of_sense (by unfold State.valued; generalize tabulate s.demandNow = x; rfl)
  | faulted cause c _ => exact measures_faultOne s cause c
  | granted e r _ _ => exact .refl s

theorem Acts.measures {s t : State} (h : Acts s t) : Measures s t :=
  h.keeps (P := Measures s) (fun hb h => h.trans hb.measures) (.refl s)

theorem measures_takeLoss (s : State) (lost : Rail) (x : LossEntry) : Measures s (s.takeLoss lost x) := by
  rcases takeLoss_cases s lost x with ⟨-, e⟩ | ⟨-, -, e⟩ | ⟨r, v, -, hm, e⟩ <;> rw [e]
  · exact .refl s
  · exact (measures_stopOne s _ _).trans (bits_stopTree _ _ _ _).measures
  · have hswitch : Measures (s.shed v) ((s.shed v).switchOne x.charge lost r) :=
      measures_quiet ((s.shed v).moveCharge x.charge r) x.charge.chan
    exact ((bit_shed (moveOf_eq_some hm).2.2.2).measures.trans hswitch).trans (bits_enterSwitchover _ _ _ _).measures

theorem measures_loseRail (s : State) (r : Rail) : Measures s (s.loseRail r) := by
  rw [loseRail_eq]
  exact foldl_keeps (P := Measures s) (f := fun u x => u.takeLoss r x)
    (fun t x ht => ht.trans (measures_takeLoss t r x)) _ (.refl s)

/-! ### What one event writes -/

/-- The event sets a kept level. -/
def SenseEvent.isLevel : SenseEvent → Bool
  | .xfLevel _ _ => true
  | .powerGoodArrival _ | .powerGoodLoss _ | .xfAssertion _ _ | .railGood _ | .railLost _ | .trip _ | .detach _
  | .enable _ => false

/-- Of what the controllers and the arbiters never touch, an event of the Sense Unit writes this. -/
inductive EventWrites (s : State) : SenseEvent → State → Prop where
  | nothing {e : SenseEvent} : e.isLevel = false → EventWrites s e s
  | level (k : LineId) (high : Bool) : EventWrites s (.xfLevel k high) { s with xf := put s.xf k high }
  | monitor {e : SenseEvent} (x : PerRail RailMonitor) : e.isLevel = false →
      (∀ r, (x.of r).good = (s.rail r).good) → EventWrites s e { s with rails := x }
  | line (k : LineId) : 4 ≤ (s.line k).run → EventWrites s (.enable k) (s.setLine k ⟨!(s.line k).qualified, 0⟩)
  | dropped (c : Chan) : (s.cfg c).detachAction = .release →
      EventWrites s (.detach c) (s.removeClaims fun k _ => decide (k = c))

/-- A monitor moved, its input as it stands. -/
theorem eventWrites_setRail {s : State} {e : SenseEvent} (he : e.isLevel = false) {r : Rail}
    {m : RailMonitor} (hm : m.good = (s.rail r).good) : EventWrites s e (s.setRail r m) := by
  refine .monitor (s.rails.setOf r m) he fun q => ?_
  rw [PerRail.of_setOf]
  split
  next h => rw [h, hm]
  next => rfl

theorem setRail_setRail (s : State) (r : Rail) (x y : RailMonitor) : (s.setRail r x).setRail r y = s.setRail r y := by
  cases r <;> rfl

theorem moves_detachSeen (s : State) (c : Chan) : Moves s (s.detachSeen c) := moves_setSen s c _

/-- Every event is a writing and then a move that keeps the measured currents. -/
theorem takeSenseEvent_writes (s : State) (e : SenseEvent) : ∃ w, EventWrites s e w ∧ w.sense = s.sense ∧
    Moves w (s.takeSenseEvent e) ∧ Measures w (s.takeSenseEvent e) := by
  have stays {e : SenseEvent} (he : e.isLevel = false) {t : State} (hm : Moves s t) (hs : Measures s t) :
      ∃ w, EventWrites s e w ∧ w.sense = s.sense ∧ Moves w t ∧ Measures w t := ⟨s, .nothing he, rfl, hm, hs⟩
  have fault (cause : FaultCause) (c : Chan) (hc : (s.ctl c).state.closed = true) :
      Moves s (s.fault cause c) ∧ Measures s (s.fault cause c) := ⟨moves_fault s cause c, (acts_fault cause hc).measures⟩
  have rail {e : SenseEvent} (he : e.isLevel = false) {r : Rail} {m : RailMonitor}
      (hm : m.good = (s.rail r).good) : ∃ w, EventWrites s e w ∧ w.sense = s.sense ∧ Moves w (s.setRail r m) ∧
        Measures w (s.setRail r m) := ⟨_, eventWrites_setRail he hm, rfl, .refl _, .refl _⟩
  cases e with
  | powerGoodArrival c =>
    unfold State.takeSenseEvent
    dsimp only
    split
    · exact stays rfl (moves_enterOn s c) (measures_setSen (s := s.setCtl c (s.ctl c).entersOn) (c := c) rfl)
    · exact stays rfl (.refl s) (.refl s)
  | powerGoodLoss c =>
    unfold State.takeSenseEvent
    dsimp only
    split
    next hc => exact stays rfl (fault .pgLost c (by rw [hc]; rfl)).1 (fault .pgLost c (by rw [hc]; rfl)).2
    next => exact stays rfl (.refl s) (.refl s)
  | xfLevel k high => exact ⟨_, .level k high, rfl, .refl _, .refl _⟩
  | xfAssertion k c =>
    unfold State.takeSenseEvent
    dsimp only
    split
    next hc =>
      simp only [State.takesLine, Bool.and_eq_true] at hc
      exact stays rfl (fault .external c hc.2).1 (fault .external c hc.2).2
    next => exact stays rfl (.refl s) (.refl s)
  | railGood r =>
    change ∃ w, _ ∧ _ ∧ Moves w (s.railGood r) ∧ Measures w (s.railGood r)
    unfold State.railGood
    dsimp only
    split
    · exact rail rfl rfl
    · exact rail rfl rfl
    all_goals exact stays rfl (.refl s) (.refl s)
  | railLost r =>
    change ∃ w, _ ∧ _ ∧ Moves w (s.railLost r) ∧ Measures w (s.railLost r)
    unfold State.railLost
    dsimp only
    split
    · exact rail rfl rfl
    · split
      · have h := moves_loseRail (s.setRail r { s.rail r with
          state := .falling, lossTimer := startTimer (s.config.rails.of r).lossQual }) r
        rw [State.rail_setRail, setRail_setRail] at h
        exact ⟨_, eventWrites_setRail rfl (m := { s.rail r with state := .down, lossTimer := none }) rfl, rfl, h,
          measures_loseRail (s.setRail r _) r⟩
      · exact rail rfl rfl
    all_goals exact stays rfl (.refl s) (.refl s)
  | trip c =>
    change ∃ w, _ ∧ _ ∧ Moves w (s.takeTrip c) ∧ Measures w (s.takeTrip c)
    refine stays rfl (moves_takeTrip s c) ?_
    unfold State.takeTrip
    dsimp only
    split
    · have hseen : Measures s (s.setSen c { s.sen c with tripPassed := false }) := measures_setSen rfl
      split
      next ht =>
        refine hseen.trans (acts_fault .overcurrent ?_).measures
        rcases ((takesTrip_iff s c).1 ht).2 with h | h
        · rw [State.setSen_ctl, h]; rfl
        · rw [State.setSen_ctl, h.1]; rfl
      · exact hseen
    · exact .refl s
  | detach c =>
    change ∃ w, _ ∧ _ ∧ Moves w (s.takeDetach c) ∧ Measures w (s.takeDetach c)
    by_cases hp : (s.sen c).detachPassed = true
    · rw [takeDetach_eq hp]
      have hseen : Measures s (s.detachSeen c) := measures_setSen rfl
      split
      · cases ha : (s.cfg c).detachAction with
        | notify => exact stays rfl ((moves_detachSeen s c).trans (moves_reportChannel _ c _)) hseen
        | release =>
          dsimp only
          generalize htold : (s.detachSeen c).reportChannel c (.detached .release) = told
          have hmoves : Moves s told := htold ▸ (moves_detachSeen s c).trans (moves_reportChannel _ c _)
          have hmeasures : Measures s told := by rw [← htold]; exact hseen
          refine ⟨_, .dropped c ha, rfl, (moves_removeClaims hmoves _).trans (moves_dropReported told _ _), ?_⟩
          have hdropped : Measures s ((told.dropTold (fun k _ => decide (k = c)) .detached).removeClaims
              fun k _ => decide (k = c)) := by
            refine hmeasures.trans (.of_sense ?_)
            change (told.dropTold _ _).sense = _
            refine foldl_keeps (P := fun u : State => u.sense = told.sense) (fun t k ht =>
              foldl_keeps (P := fun u : State => u.sense = told.sense) (fun u g hu => ?_) _ ht) _ rfl
            split
            · exact hu
            · exact hu
            · exact hu
          rw [dropReported_eq]
          exact hdropped.trans (acts_recompute _).measures
      · exact stays rfl (moves_detachSeen s c) hseen
    · have htake : s.takeDetach c = s := if_neg hp
      rw [htake]
      exact stays rfl (.refl s) (.refl s)
  | enable k =>
    change ∃ w, _ ∧ _ ∧ Moves w (s.takeEnable k) ∧ Measures w (s.takeEnable k)
    by_cases hr : 4 ≤ (s.line k).run
    · refine ⟨_, .line k hr, rfl, moves_takeEnable s k hr, ?_⟩
      have htake : s.takeEnable k = (s.setLine k ⟨!(s.line k).qualified, 0⟩).recompute := if_pos hr
      rw [htake]
      exact (acts_recompute _).measures
    · have htake : s.takeEnable k = s := if_neg hr
      rw [htake]
      exact stays rfl (.refl s) (.refl s)

end Sys2Proof.Machine
end

section
/-! PROOFS. Samples: the events a sample brings, their free order, and what stands after it. -/

namespace Sys2Proof.Machine

/-! ### What stands through a sample's events -/

/-- From the kept sample `k` to `u`: currents and rail inputs stand, a line has at most had its complete run taken, a
claim at most gone by a detach with RELEASE, and the rest moves as the controllers and the arbiters move it. -/
structure SampleKeeps (k u : State) : Prop where
  measured : Measures k u
  inputs : ∀ r, (u.rail r).good = (k.rail r).good
  lines : ∀ j, u.line j = k.line j ∨ 4 ≤ (k.line j).run ∧ u.line j = ⟨!(k.line j).qualified, 0⟩
  claims : ∀ c g, u.claimOf c g = k.claimOf c g ∨ u.claimOf c g = none ∧ (k.cfg c).detachAction = .release
  moves : Moves { k with xf := u.xf, enables := u.enables, rails := u.rails, claims := u.claims } u

theorem SampleKeeps.refl (k : State) : SampleKeeps k k :=
  ⟨.refl k, fun _ => rfl, fun _ => .inl rfl, fun _ _ => .inl rfl, .refl k⟩

section Sample

variable {k u v : State}

theorem SampleKeeps.cfg (h : SampleKeeps k u) (c : Chan) : u.cfg c = k.cfg c := h.moves.cfg c

theorem SampleKeeps.moved (h : SampleKeeps k u) (hm : Moves u v) (hs : Measures u v) : SampleKeeps k v := by
  refine ⟨h.measured.trans hs, fun r => ?_, fun j => ?_, fun c g => ?_, ?_⟩
  · rw [hm.railState]; exact h.inputs r
  · rw [State.line, hm.kept.enables]; exact h.lines j
  · rw [hm.claimOf]; exact h.claims c g
  · rw [hm.kept.xf, hm.kept.enables, hm.kept.rails, hm.kept.claims]
    exact h.moves.trans hm

/-- Only these four tables rewritten. -/
theorem SampleKeeps.tables {xf : Vector Bool 4} {enables : Vector EnableLine 4} {rails : PerRail RailMonitor}
    {claims : Vector (Vector (Option Claim) 4) 16} (h : SampleKeeps k u) :
    Moves { k with xf := xf, enables := enables, rails := rails, claims := claims }
      { u with xf := xf, enables := enables, rails := rails, claims := claims } :=
  ⟨⟨h.moves.kept.pm, h.moves.kept.deviceTime, h.moves.kept.config, h.moves.kept.lock, h.moves.kept.ports, rfl, rfl,
    rfl, rfl, h.moves.kept.pending⟩, h.moves.grown⟩

theorem SampleKeeps.written (h : SampleKeeps k u) {e : SenseEvent} (hw : EventWrites u e v) : SampleKeeps k v := by
  cases hw with
  | nothing _ => exact h
  | level i high => exact ⟨h.measured, h.inputs, h.lines, h.claims, h.tables⟩
  | monitor x _ hx => exact ⟨h.measured, fun r => (hx r).trans (h.inputs r), h.lines, h.claims, h.tables⟩
  | line i hi =>
    refine ⟨h.measured, h.inputs, fun j => ?_, h.claims, h.tables⟩
    rw [State.line_setLine_of]
    split
    next e =>
      subst e
      rcases h.lines j with hj | ⟨hrun, hj⟩
      · exact .inr ⟨by rwa [hj] at hi, by rw [hj]⟩
      · rw [hj] at hi
        exact absurd hi (Nat.not_le.2 (Nat.zero_lt_succ 3))
    next => exact h.lines j
  | dropped c hc =>
    have hclaims (j : Chan) (g : HostId) : (u.removeClaims fun k _ => decide (k = c)).claimOf j g = k.claimOf j g ∨
        (u.removeClaims fun k _ => decide (k = c)).claimOf j g = none ∧ (k.cfg j).detachAction = .release := by
      rw [State.removeClaims_claimOf]
      split
      next e =>
        refine .inr ⟨rfl, ?_⟩
        rw [of_decide_eq_true e, ← h.cfg]
        exact hc
      next => exact h.claims j g
    rw [State.removeClaims_frame] at hclaims ⊢
    generalize (u.removeClaims fun k _ => decide (k = c)).claims = x at *
    exact ⟨h.measured, h.inputs, h.lines, hclaims, h.tables⟩

theorem SampleKeeps.taken (h : SampleKeeps k u) (e : SenseEvent) :
    SampleKeeps k (State.settle u (u.takeSenseEvent e)) := by
  obtain ⟨w, hw, -, hm, hs⟩ := takeSenseEvent_writes u e
  exact ((h.written hw).moved hm hs).moved (moves_settle u _) (acts_settle u _).measures

theorem TakenInTurn.sampleKeeps {l : List SenseEvent} (ht : TakenInTurn l u v) (h : SampleKeeps k u) :
    SampleKeeps k v := by
  induction ht with
  | nothing s => exact h
  | next d _ ih => exact ih ((h.moved (moves_draw _ d) (.refl _)).taken _)

/-! ### The kept levels -/

theorem eventWrites_xf {e : SenseEvent} (hw : EventWrites u e v) (he : e.isLevel = false) : v.xf = u.xf := by
  cases hw with
  | level j high => cases he
  | nothing _ => rfl
  | monitor x _ _ => rfl
  | line j _ => rfl
  | dropped c _ => rfl

theorem taken_xf {e : SenseEvent} (he : e.isLevel = false) : (State.settle u (u.takeSenseEvent e)).xf = u.xf := by
  obtain ⟨w, hw, -, hm, -⟩ := takeSenseEvent_writes u e
  rw [(moves_settle u _).kept.xf, hm.kept.xf]
  exact eventWrites_xf hw he

theorem taken_xfLevel (u : State) (i j : LineId) (high : Bool) :
    look (State.settle u (u.takeSenseEvent (.xfLevel j high))).xf i = if i = j then high else look u.xf i := by
  rw [(moves_settle u _).kept.xf]
  exact look_put u.xf j i high

/-- Where a line's level is set to one value at most, that is the level at the end if it is set at all. -/
theorem TakenInTurn.xf {l : List SenseEvent} (ht : TakenInTurn l u v) {i : LineId} {high : Bool}
    (h : ∀ b, .xfLevel i b ∈ l → b = high) :
    look v.xf i = if SenseEvent.xfLevel i high ∈ l then high else look u.xf i := by
  induction ht with
  | nothing s => simp
  | @next e l s t d _ ih =>
    rw [ih fun b hb => h b (List.mem_cons_of_mem _ hb)]
    by_cases hl : SenseEvent.xfLevel i high ∈ l
    · simp [hl]
    · rw [if_neg hl]
      by_cases he : e.isLevel = false
      · have hne : SenseEvent.xfLevel i high ≠ e := by
          rintro rfl
          cases he
        rw [taken_xf he, if_neg (by simp [hne, hl])]
      · obtain ⟨j, b, rfl⟩ : ∃ j b, e = .xfLevel j b := by
          cases e with
          | xfLevel j b => exact ⟨j, b, rfl⟩
          | _ => exact absurd rfl he
        rw [taken_xfLevel]
        by_cases hij : i = j
        · subst hij
          have hb := h b (by simp)
          subst hb
          simp
        · simp [hij, hl]

end Sample

/-! ### The events of a sample -/

theorem mem_powerEvents (s t : State) (e : SenseEvent) : e ∈ powerEvents s t ↔ ∃ c,
    e = .powerGoodArrival c ∧ (s.sen c).powerGood = false ∧ (t.sen c).powerGood = true ∨
    e = .powerGoodLoss c ∧ (s.sen c).powerGood = true ∧ (t.sen c).powerGood = false := by
  unfold powerEvents
  rw [List.mem_filterMap]
  refine exists_congr fun c => ?_
  cases (s.sen c).powerGood <;> cases (t.sen c).powerGood <;> simp [eq_comm]

theorem mem_railEvents (s t : State) (e : SenseEvent) : e ∈ railEvents s t ↔ ∃ r,
    e = .railGood r ∧ (s.rail r).good = false ∧ (t.rail r).good = true ∨
    e = .railLost r ∧ (s.rail r).good = true ∧ (t.rail r).good = false := by
  unfold railEvents
  rw [List.mem_filterMap]
  refine exists_congr fun r => ?_
  have hr : r ∈ [Rail.a, Rail.b] := by cases r <;> decide
  cases (s.rail r).good <;> cases (t.rail r).good <;> simp [hr, eq_comm]

theorem mem_xfEvents (s : State) (x : Sample) (e : SenseEvent) : e ∈ s.xfEvents x ↔ ∃ k,
    look x.xf k ≠ look s.xf k ∧ (e = .xfLevel k (look x.xf k) ∨
      look x.xf k = true ∧ ∃ c, faultLine (s.cfg c).faultSource = some k ∧ e = .xfAssertion k c) := by
  unfold State.xfEvents
  rw [List.mem_flatMap]
  refine exists_congr fun k => ?_
  simp only [List.mem_filter, mem_allLines, true_and, decide_eq_true_eq, List.mem_cons]
  refine and_congr_right fun _ => or_congr_right ?_
  by_cases hx : look x.xf k = true
  · simp only [hx, if_true, List.mem_map, List.mem_filter, mem_allChans, true_and, decide_eq_true_eq]
    exact exists_congr fun c => and_congr_right fun _ => eq_comm
  · simp [hx]

theorem mem_sampleEvents (s : State) (x : Sample) (e : SenseEvent) : e ∈ s.sampleEvents x ↔
    e ∈ powerEvents s (s.keepSample x) ∨ e ∈ s.xfEvents x ∨ e ∈ railEvents s (s.keepSample x) := by
  unfold State.sampleEvents
  simp only [List.mem_append, or_assoc]

theorem hasRow_of_mem_passedEvents {s : State} {e : SenseEvent} (h : e ∈ s.passedEvents) : e.hasRow = true := by
  unfold State.passedEvents at h
  simp only [List.mem_append, List.mem_map] at h
  rcases h with (⟨_, -, rfl⟩ | ⟨_, -, rfl⟩) | ⟨_, -, rfl⟩ <;> rfl

theorem hasRow_of_mem_sampleEvents {s : State} {x : Sample} {e : SenseEvent} (h : e ∈ s.sampleEvents x) :
    e.hasRow = false := by
  rcases (mem_sampleEvents s x e).1 h with h | h | h
  · obtain ⟨c, ⟨rfl, -⟩ | ⟨rfl, -⟩⟩ := (mem_powerEvents _ _ e).1 h <;> rfl
  · obtain ⟨k, -, rfl | ⟨-, c, -, rfl⟩⟩ := (mem_xfEvents _ _ e).1 h <;> rfl
  · obtain ⟨r, ⟨rfl, -⟩ | ⟨rfl, -⟩⟩ := (mem_railEvents _ _ e).1 h <;> rfl

theorem sampleEvents_powerGoodArrival (s : State) (x : Sample) (c : Chan) :
    .powerGoodArrival c ∈ s.sampleEvents x ↔
      (s.sen c).powerGood = false ∧ ((s.keepSample x).sen c).powerGood = true := by
  simp [mem_sampleEvents, mem_powerEvents, mem_xfEvents, mem_railEvents]

theorem sampleEvents_powerGoodLoss (s : State) (x : Sample) (c : Chan) :
    .powerGoodLoss c ∈ s.sampleEvents x ↔
      (s.sen c).powerGood = true ∧ ((s.keepSample x).sen c).powerGood = false := by
  simp [mem_sampleEvents, mem_powerEvents, mem_xfEvents, mem_railEvents]

theorem sampleEvents_xfLevel (s : State) (x : Sample) (k : LineId) (high : Bool) :
    .xfLevel k high ∈ s.sampleEvents x ↔ look x.xf k = high ∧ look s.xf k ≠ high := by
  simp only [mem_sampleEvents, mem_powerEvents, mem_xfEvents, mem_railEvents, SenseEvent.xfLevel.injEq, reduceCtorEq,
    false_and, and_false, or_false, false_or, exists_false]
  constructor
  · rintro ⟨j, hne, rfl, rfl⟩
    exact ⟨rfl, hne.symm⟩
  · rintro ⟨rfl, hne⟩
    exact ⟨k, hne.symm, rfl, rfl⟩

theorem sampleEvents_xfAssertion (s : State) (x : Sample) (k : LineId) (c : Chan) :
    .xfAssertion k c ∈ s.sampleEvents x ↔
      look x.xf k = true ∧ look s.xf k = false ∧ faultLine (s.cfg c).faultSource = some k := by
  simp only [mem_sampleEvents, mem_powerEvents, mem_xfEvents, mem_railEvents, SenseEvent.xfAssertion.injEq,
    reduceCtorEq, false_and, or_false, false_or, exists_false]
  constructor
  · rintro ⟨j, hne, hx, d, hd, rfl, rfl⟩
    rw [hx] at hne
    exact ⟨hx, by simpa using hne.symm, hd⟩
  · rintro ⟨hx, hs, hc⟩
    exact ⟨k, by rw [hx, hs]; decide, hx, c, hc, rfl, rfl⟩

theorem sampleEvents_railGood (s : State) (x : Sample) (r : Rail) : .railGood r ∈ s.sampleEvents x ↔
    (s.rail r).good = false ∧ ((s.keepSample x).rail r).good = true := by
  simp [mem_sampleEvents, mem_powerEvents, mem_xfEvents, mem_railEvents]

theorem sampleEvents_railLost (s : State) (x : Sample) (r : Rail) : .railLost r ∈ s.sampleEvents x ↔
    (s.rail r).good = true ∧ ((s.keepSample x).rail r).good = false := by
  simp [mem_sampleEvents, mem_powerEvents, mem_xfEvents, mem_railEvents]

/-! ### Their free order -/

/-- The free order takes events one by one until none may come next; an assertion follows its line's level. -/
theorem inFreeOrder_taken : ∀ (n : Nat) (l : List SenseEvent) (s : State), l.length ≤ n →
    ∃ taken left : List SenseEvent, (taken ++ left).Perm l ∧ withinSample left = [] ∧
      TakenInTurn taken s
        (inFreeOrder withinSample (fun e u => State.settle u (u.takeSenseEvent e)) n l s) ∧
      ∀ k c before after, taken = before ++ .xfAssertion k c :: after → .xfLevel k true ∈ l → .xfLevel k true ∈ before
  | 0, l, s, hl => by
    obtain rfl := List.length_eq_zero_iff.1 (Nat.le_zero.1 hl)
    exact ⟨[], [], .refl _, rfl, .nothing s, fun k c b a h => by simp at h⟩
  | n + 1, l, s, hl => by
    unfold inFreeOrder
    cases hp : pick (withinSample l) s with
    | none =>
      have hempty : withinSample l = [] := by
        have h := pick_isSome (withinSample l) s
        rw [hp] at h
        simpa using h.symm
      exact ⟨[], l, .refl _, hempty, .nothing s, fun k c b a h => by simp at h⟩
    | some r =>
      obtain ⟨e, t⟩ := r
      obtain ⟨he, ht⟩ := pick_spec hp
      obtain ⟨hmem, hnext, -⟩ := mem_withinSample.1 he
      obtain ⟨d, rfl⟩ : ∃ d, t = { s with draws := d } := by
        rcases ht with rfl | rfl
        · exact ⟨t.draws, rfl⟩
        · exact ⟨_, rfl⟩
      obtain ⟨taken, left, hperm, hleft, hrun, horder⟩ := inFreeOrder_taken n (l.erase e)
        (State.settle { s with draws := d } (State.takeSenseEvent { s with draws := d } e))
        (by rw [List.length_erase_of_mem hmem]; omega)
      refine ⟨e :: taken, left, (hperm.cons e).trans (List.perm_cons_erase hmem).symm, hleft, .next d hrun,
        fun k c before after heq hlevel => ?_⟩
      cases before with
      | nil =>
        obtain ⟨rfl, -⟩ := List.cons.inj heq
        simp [SenseEvent.mayComeNext] at hnext
        exact absurd hlevel hnext
      | cons y before =>
        obtain ⟨rfl, hrest⟩ := List.cons.inj heq
        by_cases hey : e = .xfLevel k true
        · rw [hey]; simp
        · exact List.mem_cons_of_mem _ (horder k c before after hrest ((List.mem_erase_of_ne (Ne.symm hey)).2 hlevel))

/-- The run of a sample: its events in turn, each of its own taken, trips of blanked channels then ignored. -/
theorem takeSample_run (s : State) (x : Sample) : ∃ (taken : List SenseEvent) (u : State),
    (∀ e ∈ s.sampleEvents x, e ∈ taken) ∧
    taken.Subperm (s.sampleEvents x ++ (s.keepSample x).passedEvents) ∧
    (∀ k c before after, taken = before ++ .xfAssertion k c :: after → .xfLevel k true ∈ before) ∧
    TakenInTurn taken (s.keepSample x) u ∧ s.takeSample x = u.ignoreBlanked := by
  obtain ⟨taken, left, hperm, hleft, hrun, horder⟩ := inFreeOrder_taken _
    (s.sampleEvents x ++ (s.keepSample x).passedEvents) (s.keepSample x) (Nat.le_refl _)
  have hsub : taken.Subperm (s.sampleEvents x ++ (s.keepSample x).passedEvents) :=
    (List.sublist_append_left taken left).subperm.trans hperm.subperm
  refine ⟨taken, _, fun e he => ?_, hsub, fun k c before after heq => horder k c before after heq ?_, hrun, rfl⟩
  · have h := hperm.mem_iff.2 (List.mem_append_left _ he)
    refine (List.mem_append.1 h).resolve_right fun hl => ?_
    have hrow := withinSample_eq_nil.1 hleft e hl
    rw [hasRow_of_mem_sampleEvents he] at hrow
    cases hrow
  · have hmem : .xfAssertion k c ∈ taken := by rw [heq]; simp
    rcases List.mem_append.1 (hsub.subset hmem) with h | h
    · obtain ⟨hx, hs, -⟩ := (sampleEvents_xfAssertion s x k c).1 h
      exact List.mem_append_left _ ((sampleEvents_xfLevel s x k true).2 ⟨hx, by rw [hs]; decide⟩)
    · have hrow := hasRow_of_mem_passedEvents h
      cases hrow

theorem exec_senseSample {s : State} (hl : s.isLoading = false) (x : Sample) :
    exec (.senseSample x) s = .next (s.takeSample x) := by
  simp [exec, execSenseSample, hl]

/-- The kept levels after a sample are its own. -/
theorem takeSample_xf {s u : State} {x : Sample} {taken : List SenseEvent}
    (hall : ∀ e ∈ s.sampleEvents x, e ∈ taken)
    (hsub : taken.Subperm (s.sampleEvents x ++ (s.keepSample x).passedEvents))
    (hrun : TakenInTurn taken (s.keepSample x) u) : u.xf = x.xf := by
  have hfrom {k : LineId} {b : Bool} (hb : .xfLevel k b ∈ taken) : .xfLevel k b ∈ s.sampleEvents x := by
    refine (List.mem_append.1 (hsub.subset hb)).resolve_right fun h => ?_
    have hrow := hasRow_of_mem_passedEvents h
    cases hrow
  refine table_ext fun k => ?_
  rw [hrun.xf (high := look x.xf k) fun b hb => ((sampleEvents_xfLevel s x k b).1 (hfrom hb)).1.symm]
  split
  · rfl
  next h =>
    by_contra hne
    exact h (hall _ ((sampleEvents_xfLevel s x k _).2 ⟨rfl, hne⟩))

/-! ### The sample as kept -/

theorem sampleChannel_kept (closed : Bool) (f : ChannelConfig) (y : ChannelSense) (current : BitVec 16)
    (v : VoltageBand) :
    let z := sampleChannel closed f y current v
    z.measured = current ∧
    z.powerGood = (if closed = true ∧ v = .belowFall then false
      else if closed = true ∧ v = .atOrAboveRise then true else y.powerGood) ∧
    z.tripRun = (if closed = false then y.tripRun
      else if f.tripThreshold * 10 < current.toNat then y.tripRun + 1 else 0) ∧
    (z.tripPassed = true ↔ y.tripPassed = true ∨ closed = true ∧ f.tripFilter + 1 ≤ z.tripRun) ∧
    z.detachRun = (if y.detachArmed = false then y.detachRun
      else if current.toNat < f.detachThreshold then y.detachRun + 1 else 0) ∧
    (z.detachPassed = true ↔ y.detachPassed = true ∨ y.detachArmed = true ∧ f.detachTime * 10 ≤ z.detachRun) ∧
    (z.detachArmed = true ↔ y.detachArmed = true ∧ z.detachRun < f.detachTime * 10) := by
  unfold sampleChannel
  refine ⟨rfl, ?_, ?_, ?_, ?_, ?_, ?_⟩
  · unfold nextPowerGood
    cases closed <;> cases v <;> simp
  · unfold nextTripRun
    cases closed <;> simp
  · simp
  · unfold nextDetachRun
    cases y.detachArmed <;> simp
  · cases ha : y.detachArmed <;> simp
  · cases ha : y.detachArmed <;> simp

theorem sampleLine_run (y : EnableLine) (high : Bool) : sampleLine y high = { y with
    run := if 4 ≤ y.run then y.run else if high = y.qualified then 0 else y.run + 1 } := by
  unfold sampleLine qualifyRun
  split <;> rfl

theorem keepSample_moves (s : State) (x : Sample) : Moves { s with
    enables := (s.keepSample x).enables, rails := (s.keepSample x).rails } (s.keepSample x) := by
  rw [State.keepSample_frame]
  generalize (s.keepSample x).sense = a, (s.keepSample x).enables = b, (s.keepSample x).rails = c
  exact .of_same ⟨rfl, rfl, rfl, rfl, rfl, rfl, rfl, rfl, rfl, rfl⟩ rfl

/-- Seen from the state before the sample. -/
theorem SampleKeeps.from_sample {s t : State} {x : Sample} (h : SampleKeeps (s.keepSample x) t) :
    Moves { s with xf := t.xf, enables := t.enables, rails := t.rails, claims := t.claims } t := by
  have hm := h.moves
  rw [State.keepSample_frame] at hm
  generalize (s.keepSample x).sense = a, (s.keepSample x).enables = b, (s.keepSample x).rails = c at hm
  exact ⟨⟨hm.kept.pm, hm.kept.deviceTime, hm.kept.config, hm.kept.lock, hm.kept.ports, rfl, rfl, rfl, rfl,
    hm.kept.pending⟩, hm.grown⟩

/-- A sample without an event of its own. -/
theorem sampleEvents_eq_nil {s : State} {x : Sample} (ha : (s.rail .a).good = x.railA)
    (hb : (s.rail .b).good = x.railB) (hx : x.xf = s.xf)
    (hp : ∀ c, ((s.keepSample x).sen c).powerGood = (s.sen c).powerGood) : s.sampleEvents x = [] := by
  refine List.eq_nil_iff_forall_not_mem.2 fun e he => ?_
  rcases (mem_sampleEvents s x e).1 he with h | h | h
  · obtain ⟨c, ⟨-, h1, h2⟩ | ⟨-, h1, h2⟩⟩ := (mem_powerEvents _ _ e).1 h <;> rw [hp, h1] at h2 <;> cases h2
  · obtain ⟨k, hne, -⟩ := (mem_xfEvents _ _ e).1 h
    exact hne (by rw [hx])
  · have hgood (r : Rail) : ((s.keepSample x).rail r).good = (s.rail r).good := by
      cases r
      · exact ha.symm
      · exact hb.symm
    obtain ⟨r, ⟨-, h1, h2⟩ | ⟨-, h1, h2⟩⟩ := (mem_railEvents _ _ e).1 h <;> rw [hgood, h1] at h2 <;> cases h2

/-- Settles O38: the sample as kept, field by field; without events of its own nothing more; and what its events in
turn leave. -/
theorem sampleIsKept : Obligations.SampleIsKept := by
  intro x s hl k
  refine ⟨⟨rfl, rfl, rfl, fun j => ?_, fun c => ?_⟩, fun ha hb hx hp => ?_, ?_⟩
  · rw [State.keepSample_line, sampleLine_run]
  · rw [State.keepSample_sen]
    exact sampleChannel_kept _ _ _ _ _
  · have hnil := sampleEvents_eq_nil ha hb hx hp
    have hrest : s.takeSample x = k.ignoreBlanked := by
      have hnone : withinSample (s.keepSample x).passedEvents = [] :=
        withinSample_eq_nil.2 fun e he => hasRow_of_mem_passedEvents he
      unfold State.takeSample
      dsimp only
      rw [hnil, List.nil_append]
      cases (s.keepSample x).passedEvents.length with
      | zero => rfl
      | succ n =>
        unfold inFreeOrder
        rw [hnone]
        rfl
    refine ⟨k.ignoreBlanked, by rw [exec_senseSample hl, hrest], State.ignoreBlanked_frame k, fun c => ?_⟩
    rw [State.ignoreBlanked_sen]
    rfl
  · obtain ⟨taken, u, hall, hsub, -, hrun, hsample⟩ := takeSample_run s x
    have hxf : u.ignoreBlanked.xf = x.xf := show u.xf = x.xf from takeSample_xf hall hsub hrun
    have ht : SampleKeeps k u.ignoreBlanked :=
      (hrun.sampleKeeps (.refl _)).moved (moves_ignoreBlanked u) fun c => by rw [State.ignoreBlanked_sen]
    rw [← hsample] at hxf ht
    refine ⟨s.takeSample x, exec_senseSample hl x, ?_⟩
    generalize s.takeSample x = t at *
    have hmoves := ht.from_sample
    have hmeasured (c : Chan) : (t.sen c).measured = look x.current c := by
      rw [ht.measured, State.keepSample_sen]
      rfl
    have ha : (t.rail .a).good = x.railA := ht.inputs .a
    have hb : (t.rail .b).good = x.railB := ht.inputs .b
    have hclaims (c : Chan) (g : HostId) : t.claimOf c g = s.claimOf c g ∨
        t.claimOf c g = none ∧ (s.cfg c).detachAction = .release := ht.claims c g
    exact ⟨hmeasured, hxf, ha, hb, ht.lines, hclaims, hmoves.kept, hmoves.grown⟩

/-! ### Each event at the block that takes it -/

theorem faultLine_eq_some (x : FaultSource) (k : LineId) : faultLine x = some k ↔ x = .xf k ∨ x = .senseXf k := by
  cases x <;> simp [faultLine]

theorem enterOn_noticesOf (s : State) (c : Chan) (g : HostId) : (s.enterOn c).noticesOf g =
    if s.receives g c = true then
      appendNotice (s.noticesOf g) (channelRecord s g c (.granted (s.ctl c).chargedRail) .isOn)
    else s.noticesOf g := by
  unfold State.enterOn
  dsimp only
  have hm (a : Controller) (b : ChannelSense) : Moves s ((s.setCtl c a).setSen c b) :=
    (moves_setCtl s c a).trans (moves_setSen _ c b)
  rw [reportChannel_noticesOf, (hm _ _).kept.receives, (hm _ _).kept.channelRecord, State.setSen_ctl,
    State.ctl_setCtl]
  rfl

/-- Settles O39: which events a sample brings, the free order that takes them, and what each does. -/
theorem senseEventsReachTheController : Obligations.SenseEventsReachTheController := by
  refine ⟨fun x s hl => ?sample, fun c k s => ?channel, fun r s => ?rail⟩
  case sample =>
    intro kept
    refine ⟨fun c => ?_, fun c => ?_, sampleEvents_xfLevel s x, sampleEvents_xfAssertion s x, fun r => ?_, fun r => ?_,
      ?_⟩
    · rw [sampleEvents_powerGoodArrival, State.keepSample_sen]
      unfold sampleChannel nextPowerGood
      dsimp only
      cases (s.ctl c).state.closed <;> cases look x.voltage c <;> simp
    · rw [sampleEvents_powerGoodLoss, State.keepSample_sen]
      unfold sampleChannel nextPowerGood
      dsimp only
      cases (s.ctl c).state.closed <;> cases look x.voltage c <;> simp
    · rw [sampleEvents_railGood, and_comm]
    · rw [sampleEvents_railLost, and_comm]
    · obtain ⟨taken, u, hall, hsub, horder, hrun, hsample⟩ := takeSample_run s x
      refine ⟨taken, u, u.ignoreBlanked, hall, hsub, horder, hrun, by rw [exec_senseSample hl, hsample],
        State.ignoreBlanked_frame u, fun c => ?_⟩
      rw [State.ignoreBlanked_sen]
  case channel =>
    refine ⟨fun hl => ⟨?_, ?_, ?_⟩, fun hs hp => ?_, fun hs => ?_, fun hs => ?_, fun hs => ?_, fun _ => rfl,
      fun hsrc hs => ?_, fun h1 h2 => ?_, fun h1 h2 => ?_⟩
    · simp [exec, execTripEvent, hl, State.takeSenseEvent]
    · simp [exec, execDetachEvent, hl, State.takeSenseEvent]
    · simp [exec, execEnableEvent, hl, State.takeSenseEvent]
    · have htake : s.takeSenseEvent (.powerGoodArrival c) = s.enterOn c := by simp [State.takeSenseEvent, hs, hp]
      refine ⟨_, htake, ?_, ?_, fun j hj => ⟨?_, ?_⟩, enterOn_noticesOf s c, rfl⟩
      · exact State.ctl_setCtl s c _
      · exact State.sen_setSen _ c _
      · have h := State.ctl_setCtl_of s c j (s.ctl c).entersOn
        rwa [if_neg hj] at h
      · have h := State.sen_setSen_of s c j { s.sen c with
          detachArmed := (s.cfg c).detachThreshold ≠ 0, detachRun := 0, detachPassed := false }
        rwa [if_neg hj] at h
    · simp [State.takeSenseEvent, hs]
    · have htake : s.takeSenseEvent (.powerGoodLoss c) = s.fault .pgLost c := if_pos hs
      rw [htake]
      exact faultTaken_fault s .pgLost c
    · exact if_neg hs
    · have htakes : s.takesLine k c = true := by
        simp [State.takesLine, (faultLine_eq_some _ k).2 hsrc, closed_iff, hs]
      have htake : s.takeSenseEvent (.xfAssertion k c) = s.fault .external c := if_pos htakes
      rw [htake]
      exact faultTaken_fault s .external c
    · have hno : ¬ faultLine (s.cfg c).faultSource = some k := by
        rw [faultLine_eq_some]
        exact fun h => h.elim h1 h2
      exact if_neg (by simp [State.takesLine, hno])
    · have hno : ¬ (s.ctl c).state.closed = true := by
        rw [closed_iff]
        exact fun h => h.elim h1 h2
      exact if_neg (by simp [State.takesLine, hno])
  case rail =>
    refine ⟨fun h => ?_, fun h => ?_, fun h => ?_, fun h hq => ?_, fun h hq => ?_⟩
    · simp [State.takeSenseEvent, State.railGood, h]
    · simp [State.takeSenseEvent, State.railGood, h]
    · simp [State.takeSenseEvent, State.railLost, h]
    · simp [State.takeSenseEvent, State.railLost, h, hq, startTimer]
    · simp [State.takeSenseEvent, State.railLost, h, hq, startTimer]

end Sys2Proof.Machine
end

section
/-! PROOFS. Preemption: the victims are the shortest first part of the victim order that makes room. -/

namespace Sys2Proof.Machine

/-! ### The walk -/

/-- The walk takes a first part of the list, none of it in vain. -/
theorem walk_spec {need : Nat} : ∀ {l : List Charge} {atHand : Nat} {v : List Charge},
    walk need atHand l = some v →
      (∃ rest, l = v ++ rest) ∧ (v ≠ [] → atHand + chargeSum v.dropLast < need)
  | [], atHand, v, h => by
    unfold walk at h
    split at h
    · cases h; exact ⟨⟨[], rfl⟩, fun hv => absurd rfl hv⟩
    · cases h
  | x :: xs, atHand, v, h => by
    unfold walk at h
    split at h
    · cases h; exact ⟨⟨x :: xs, rfl⟩, fun hv => absurd rfl hv⟩
    next hlt =>
      obtain ⟨w, hw, rfl⟩ := Option.map_eq_some_iff.1 h
      obtain ⟨⟨rest, rfl⟩, hvain⟩ := walk_spec hw
      refine ⟨⟨rest, rfl⟩, fun _ => ?_⟩
      cases w with
      | nil => simpa [chargeSum] using Nat.lt_of_not_le hlt
      | cons y ys =>
        have hys := hvain (by simp)
        rw [List.dropLast_cons_of_ne_nil (by simp), chargeSum_cons]
        omega

theorem walk_eq_none {need : Nat} : ∀ {l : List Charge} {atHand : Nat}, walk need atHand l = none →
    atHand + chargeSum l < need
  | [], atHand, h => by
    unfold walk at h
    split at h
    · cases h
    next hlt => simpa [chargeSum] using Nat.lt_of_not_le hlt
  | x :: xs, atHand, h => by
    unfold walk at h
    split at h
    · cases h
    · have := walk_eq_none (Option.map_eq_none_iff.1 h)
      rw [chargeSum_cons]
      omega

/-! ### The victim order -/

theorem shedsBefore_iff (s : State) (x y : Charge) : s.shedsBefore x y = true ↔
    (s.dem x.chan).priority < (s.dem y.chan).priority ∨
      (s.dem x.chan).priority = (s.dem y.chan).priority ∧ y.grantNumber < x.grantNumber := by
  simp [State.shedsBefore]

theorem shedCandidates_sorted (s : State) (r : Rail) (p : Nat) :
    (s.shedCandidates r p).Pairwise fun x y => s.shedsBefore y x = false := by
  refine sortBy_sorted (fun x y z hxy hyz => ?_) (fun x y hxy => ?_) _
  · rw [Bool.eq_false_iff, Ne, shedsBefore_iff] at *
    omega
  · rw [shedsBefore_iff] at hxy
    rw [Bool.eq_false_iff, Ne, shedsBefore_iff]
    omega

theorem mem_shedCandidates (s : State) (r : Rail) (p : Nat) (x : Charge) : x ∈ s.shedCandidates r p ↔
    x ∈ (s.account r).charges ∧ ((s.ctl x.chan).state = .softstart ∨ (s.ctl x.chan).state = .isOn) ∧
      (∀ k, (s.cfg k).parent = some x.chan → (s.ctl k).state.active = false) ∧ (s.dem x.chan).priority < p := by
  unfold State.shedCandidates
  rw [mem_sortBy, List.mem_filter, sheddable_iff, closed_iff]

/-- Settles O48: the walk takes a first part of the sorted candidates, and fails only where all together do not
suffice. -/
theorem victimsAreTheFirstThatSuffice : Obligations.VictimsAreTheFirstThatSuffice := by
  intro r p need s allowed before
  have hsorted := shedCandidates_sorted s r p
  have hbefore {x y : Charge} (h : s.shedsBefore x y = false) : ¬ before x y := fun hb => by
    rw [(shedsBefore_iff s x y).2 hb] at h
    cases h
  refine ⟨fun v hv => ?_, fun hnone l hn hl => ?_⟩
  · obtain ⟨⟨rest, hrest⟩, hvain⟩ := walk_spec hv
    rw [hrest, List.pairwise_append] at hsorted
    obtain ⟨hfirst, -, hcross⟩ := hsorted
    refine ⟨fun x hx => ?_, victims_room hv, hvain, hfirst.imp fun h => hbefore h, fun x hx y hy hyv => ?_⟩
    · exact (mem_shedCandidates s r p x).1 (by rw [hrest]; exact List.mem_append_left _ hx)
    · have hmem := (mem_shedCandidates s r p y).2 hy
      rw [hrest] at hmem
      exact hbefore (hcross x hx y ((List.mem_append.1 hmem).resolve_left hyv))
  · have hall := walk_eq_none hnone
    have hle := chargeSum_subperm (List.subperm_of_subset hn fun x hx => (mem_shedCandidates s r p x).2 (hl x hx))
    omega

end Sys2Proof.Machine
end

section
/-! PROOFS. Grants and examinations: the candidate by its definition, and examinations as grants until none is left. -/

namespace Sys2Proof.Machine

/-! ### Targets and candidates -/

theorem target_iff (s : State) (c : Chan) (r : Rail) : s.target c = some r ↔ IsTarget s c r := by
  unfold State.target IsTarget State.isUp
  cases hf : (s.cfg c).feed <;> cases r <;> simp [feedRails, List.find?_cons] <;>
    cases (s.rail .a).state <;> cases (s.rail .b).state <;> simp

theorem eligible_iff (s : State) (c : Chan) (r : Rail) :
    (s.parentOn c && s.target c = some r) = true ↔ IsEligible s c r := by
  rw [Bool.and_eq_true, decide_eq_true_eq, parentOn_iff, target_iff]
  rfl

theorem candidate_iff (s : State) (r : Rail) (e : QueueEntry) : s.candidate r = some e ↔ IsCandidate s r e := by
  unfold State.candidate
  rw [List.find?_eq_some_iff_append, eligible_iff]
  constructor
  · rintro ⟨he, before, after, hq, hb⟩
    refine ⟨before, after, hq, he, fun x hx hel => ?_⟩
    have h := hb x hx
    rw [(eligible_iff s x.chan r).2 hel] at h
    cases h
  · rintro ⟨before, after, hq, he, hb⟩
    refine ⟨he, before, after, hq, fun x hx => ?_⟩
    rw [Bool.not_eq_true', Bool.eq_false_iff]
    exact mt (eligible_iff s x.chan r).1 (hb x hx)

theorem admission_eq_none_iff (s : State) (r : Rail) : s.admission r = none ↔
    ∀ e, IsCandidate s r e → s.victims r e.priority (s.cfg e.chan).classAU = none := by
  unfold State.admission
  constructor
  · intro h e he
    rw [(candidate_iff s r e).2 he] at h
    exact Option.map_eq_none_iff.1 h
  · intro h
    split
    next e he => exact Option.map_eq_none_iff.2 (h e ((candidate_iff s r e).1 he))
    next => rfl

/-! ### Examinations as grants -/

theorem Examined.trans {n m : Nat} {s t u : State} (h : Examined n s t) (k : Examined m t u) :
    Examined (n + m) s u := by
  induction h with
  | nothing s => rwa [Nat.zero_add]
  | draw d _ ih => exact .draw d (ih k)
  | @grant n s t r e v he hv _ ih =>
    rw [Nat.add_right_comm]
    exact .grant r e v he hv (ih k)

/-- An examination of one rail grants at least once where its candidate can be granted. -/
theorem examined_examineRail (r : Rail) : ∀ (m : Nat) (s : State), ∃ n, Examined n s (State.examineRail r m s) ∧
    (m ≠ 0 → (s.admission r).isSome = true → n ≠ 0)
  | 0, s => ⟨0, .nothing s, fun h => absurd rfl h⟩
  | m + 1, s => by
    unfold State.examineRail
    split
    next c v h =>
      obtain ⟨e, he, rfl, hv⟩ := admission_eq_some h
      obtain ⟨n, hn, -⟩ := examined_examineRail r m ((s.shed v).grant e.chan r)
      exact ⟨n + 1, .grant r e v ((candidate_iff s r e).1 he) hv hn, fun _ _ => by omega⟩
    next h => exact ⟨0, .nothing s, fun _ hs => by rw [h] at hs; cases hs⟩

/-- Rounds of both rails end with no candidate to grant, or make a grant each. -/
theorem examined_examineBoth : ∀ (m : Nat) (s : State), ∃ n, Examined n s (State.examineBoth m s) ∧
    (n < m → ∀ r, (State.examineBoth m s).admission r = none)
  | 0, s => ⟨0, .nothing s, fun h => absurd h (Nat.lt_irrefl 0)⟩
  | m + 1, s => by
    have round (r : Rail) {t : State} (hd : ∃ d, t = { s with draws := d }) (hr : (s.admission r).isSome = true) :
        ∃ n, Examined n s (State.examineBoth m (State.examineRail r grantBound t)) ∧
          (n < m + 1 → ∀ q, (State.examineBoth m (State.examineRail r grantBound t)).admission q = none) := by
      obtain ⟨d, rfl⟩ := hd
      obtain ⟨n, hn, hpos⟩ := examined_examineRail r grantBound { s with draws := d }
      obtain ⟨k, hk, hend⟩ := examined_examineBoth m (State.examineRail r grantBound { s with draws := d })
      have hn0 := hpos (by unfold grantBound; omega) hr
      exact ⟨n + k, .draw d (hn.trans hk), fun hlt => hend (by omega)⟩
    unfold State.examineBoth
    split
    next ha hb =>
      refine ⟨0, .nothing s, fun _ r => ?_⟩
      cases r
      · simpa using ha
      · simpa using hb
    next ha _ => exact round .a ⟨s.draws, rfl⟩ ha
    next _ hb => exact round .b ⟨s.draws, rfl⟩ hb
    next ha hb =>
      split
      next r t hp =>
        refine round r ?_ (by cases r; exact ha; exact hb)
        rcases (pick_spec hp).2 with rfl | rfl
        · exact ⟨t.draws, rfl⟩
        · exact ⟨_, rfl⟩
      next hp =>
        have h := pick_isSome [Rail.a, Rail.b] s
        rw [hp] at h
        cases h

/-! ### The grant -/

theorem endWait_grants (s : State) (c : Chan) : (s.endWait c).grantCounter = s.grantCounter := by
  unfold State.endWait State.enterOff
  dsimp only
  split
  · rfl
  · split <;> rfl

theorem stopOne_grants (s : State) (cause : StopCause) (c : Chan) :
    (s.stopOne cause c).grantCounter = s.grantCounter := by
  unfold State.stopOne
  dsimp only
  rw [(sameCore_reportChannel _ _ _).grants]
  split
  · exact endWait_grants _ c
  · rfl

theorem grants_bits {s t : State} (h : Bits s t) : t.grantCounter = s.grantCounter :=
  h.keeps (P := fun t => t.grantCounter = s.grantCounter) (fun {t u} hb ht => by
    rw [← ht]
    rcases hb.cases_turns with h | ⟨c, rfl⟩ | ⟨c, k, hk, -⟩ | ⟨r, v, -, -, rfl⟩
    · exact h.grants
    · rw [reprioritize_frame]
    · exact hk.grants
    · exact foldl_keeps (P := fun w => w.grantCounter = t.grantCounter)
        (fun w x hw => (stopOne_grants w _ _).trans hw) v rfl) rfl

theorem fault_grants (s : State) (cause : FaultCause) (c : Chan) : (s.fault cause c).grantCounter = s.grantCounter := by
  have hone : (s.faultOne cause c).grantCounter = s.grantCounter := rfl
  have hcascade := (grants_bits (bits_faultCascade s cause c)).trans hone
  rw [fault_eq]
  split
  · exact (grants_bits (bits_recompute _)).trans hcascade
  · exact hcascade

/-- A grant whose entry check takes a fault, seen from QUEUED. -/
theorem faultTaken_grant {s : State} {c : Chan} (r : Rail) {cause : FaultCause} (hentry : s.entryFault c = some cause)
    (hq : (s.ctl c).state = .queued) :
    FaultTaken s (s.grant c r) c cause ∧ (s.grant c r).grantCounter = s.grantCounter + 1 := by
  have hgrant := granted_grantEntry s c r
  have e : s.grant c r = (s.grantEntry c r).fault cause c := by rw [grant_eq, hentry]
  rw [e]
  refine ⟨(faultTaken_fault _ cause c).from_before (moves_grantEntry s c r) rfl ?_ (by rw [hq]; exact nofun), ?_⟩
  · rw [hgrant.ctl, if_pos rfl]
    rfl
  · rw [fault_grants]
    exact hgrant.grants

/-- Settles O47: the grant up to its entry check field by field, its fault by `faultTaken_fault`, and the rounds of
the examinations as grants of candidates. -/
theorem grantChargesAndStarts : Obligations.GrantChargesAndStarts := by
  refine ⟨fun c r s => ⟨fun hn => ?_, fun hf hq => faultTaken_grant r (entryFault_forced hf) hq,
    fun k hk hx hq => faultTaken_grant r (entryFault_line hk hx) hq⟩, fun before after => ⟨fun h => if_pos h, fun h => ?_⟩⟩
  · have hgrant := granted_grantEntry s c r
    have e : s.grant c r = s.grantEntry c r := by rw [grant_eq, hn]
    refine ⟨s.grantEntry c r, e, hgrant.queue, hgrant.grants, ?_, ?_, ?_, fun k hk => ?_, rfl⟩
    · rw [hgrant.account, if_pos rfl]
    · rw [hgrant.account, if_neg r.other_ne]
    · rw [hgrant.ctl, if_pos rfl]
      rfl
    · rw [hgrant.ctl, if_neg hk]
  · have hsettle : State.settle before after = State.examineBoth 64 after := if_neg h
    rw [hsettle]
    obtain ⟨n, hn, hend⟩ := examined_examineBoth 64 after
    exact ⟨n, hn, fun hlt r => (admission_eq_none_iff _ r).1 (hend hlt r)⟩

end Sys2Proof.Machine
end

section
/-! PROOFS. The rail loss: every charge of the lost rail is moved or taken off, channel by channel. -/

namespace Sys2Proof.Machine

/-! ### A channel's charge under small steps -/

/-- The channel stands in SWITCHOVER with a charge on rail `r`. -/
def SwitchedTo (s : State) (c : Chan) (r : Rail) : Prop :=
  (s.ctl c).state = .switchover ∧ (s.ctl c).chargedRail = some r ∧ ∃ y ∈ (s.account r).charges, y.chan = c

/-- A charge stands, or its channel is charged no more. -/
def StandsOr (s t : State) (c : Chan) : Prop :=
  (∀ r, ∀ y ∈ (s.account r).charges, y.chan = c → y ∈ (t.account r).charges) ∧
    ((s.ctl c).state = .switchover →
      (t.ctl c).state = .switchover ∧ (t.ctl c).chargedRail = (s.ctl c).chargedRail) ∨ Uncharged t c

theorem StandsOr.refl (s : State) (c : Chan) : StandsOr s s c := .inl ⟨fun _ _ h _ => h, fun h => ⟨h, rfl⟩⟩

/-- A step that places no charge keeps the second part too. -/
theorem StandsOr.then {s t u : State} {c : Chan} (h : StandsOr s t c) (k : StandsOr t u c) (hs : Shrinks t u) :
    StandsOr s u c := by
  rcases h with ⟨hy, hst⟩ | hun
  · rcases k with ⟨ky, kst⟩ | kun
    · refine .inl ⟨fun r y h1 h2 => ky r y (hy r y h1 h2) h2, fun h => ?_⟩
      obtain ⟨h1, h2⟩ := hst h
      obtain ⟨k1, k2⟩ := kst h1
      exact ⟨k1, k2.trans h2⟩
    · exact .inr kun
  · exact .inr (hs.uncharged hun)

theorem standsOr_stopOne (s : State) (cause : StopCause) (c j : Chan) : StandsOr s (s.stopOne cause j) c := by
  by_cases hj : c = j
  · subst hj
    exact .inr (uncharged_stopOne s cause c)
  · refine .inl ⟨fun r y hy hc => ?_, fun h => ?_⟩
    · rw [stopOne_account, mem_without]
      exact ⟨hy, by rw [hc]; exact hj⟩
    · rw [stopOne_ctl, if_neg hj]
      exact ⟨h, rfl⟩

theorem Turns.standsOr {s t : State} {j : Chan} {k : Controller} (h : Turns s t j k)
    (hk : Turned (s.cfg j) (s.ctl j) k) (c : Chan) : StandsOr s t c := by
  by_cases hj : c = j
  · subst hj
    by_cases hx : (s.ctl c).state.charged = true ∧ k.state.charged = false
    · refine .inr fun r y hy => ?_
      rw [h.account, State.recharged, if_pos hx, mem_without] at hy
      exact hy.2
    · refine .inl ⟨fun r y hy _ => by rwa [h.account, State.recharged, if_neg hx], fun hs => ?_⟩
      have hcharged : k.state.charged = true := by
        have hc : (s.ctl c).state.charged = true := by rw [hs]; rfl
        simpa [hc] using hx
      rw [h.ctl_self]
      cases hk with
      | arrived => exact ⟨by simp [Controller.arrived, hs], rfl⟩
      | lost => rw [lost_charged] at hcharged; cases hcharged
      | stopped _ => rw [stopped_charged] at hcharged; cases hcharged
  · refine .inl ⟨fun r y hy hc => ?_, fun hs => by rw [h.ctl_ne hj]; exact ⟨hs, rfl⟩⟩
    rw [h.account, State.recharged]
    split
    · exact (mem_without _ _ _).2 ⟨hy, by rw [hc]; exact hj⟩
    · exact hy

theorem Bit.standsOr {s t : State} (h : Bit s t) (c : Chan) : StandsOr s t c := by
  rcases h.cases_turns with h | ⟨j, rfl⟩ | ⟨j, k, ht, hk⟩ | ⟨r, v, -, -, rfl⟩
  · exact .inl ⟨fun r y hy _ => by rwa [h.account], fun hs => by rw [h.ctl]; exact ⟨hs, rfl⟩⟩
  · exact .inl ⟨fun r y hy _ => by rwa [reprioritize_account], fun hs => by rw [reprioritize_ctl]; exact ⟨hs, rfl⟩⟩
  · exact ht.standsOr hk c
  · exact foldl_keeps (P := fun t => StandsOr s t c) (fun t x ht => ht.then (standsOr_stopOne t _ _ _)
      (shrinks_stopOne t _ _)) v (.refl s c)

theorem Bits.standsOr {s t : State} (h : Bits s t) (c : Chan) : StandsOr s t c :=
  h.keeps (P := fun t => StandsOr s t c) (fun hb hs => hs.then (hb.standsOr c) hb.shrinks) (.refl s c)

/-! ### One channel of the loss list, whatever the state -/

/-- A charge of the lost rail waits for its turn, or has been moved or taken off. -/
def LossDone (lost : Rail) (x : Charge) (s : State) : Prop :=
  x ∈ (s.account lost).charges ∨ SwitchedTo s x.chan lost.other ∨ Uncharged s x.chan

theorem LossDone.standsOr {lost : Rail} {x : Charge} {s t : State} (h : LossDone lost x s)
    (hst : StandsOr s t x.chan) (hs : Shrinks s t) : LossDone lost x t := by
  rcases hst with ⟨hy, hsw⟩ | hun
  · rcases h with hx | ⟨h1, h2, y, hmem, hc⟩ | hun
    · exact .inl (hy lost x hx rfl)
    · obtain ⟨k1, k2⟩ := hsw h1
      exact .inr (.inl ⟨k1, k2.trans h2, y, hy _ y hmem hc, hc⟩)
    · exact .inr (.inr (hs.uncharged hun))
  · exact .inr (.inr hun)

theorem LossDone.bits {lost : Rail} {x : Charge} {s t : State} (h : LossDone lost x s) (hb : Bits s t) :
    LossDone lost x t := h.standsOr (hb.standsOr _) hb.shrinks

theorem LossDone.switchOne {lost new : Rail} {x : Charge} {s : State} (h : LossDone lost x s) (hne : new ≠ lost)
    (y : Charge) : LossDone lost x (s.switchOne y lost new) := by
  have hmoved := moved_switchOne s y lost new
  have hother : new = lost.other := by
    cases new <;> cases lost <;> simp_all [Rail.other]
  by_cases hc : x.chan = y.chan
  · refine .inr (.inl ⟨?_, ?_, y, ?_, hc.symm⟩)
    · rw [hmoved.ctl, if_pos hc]; rfl
    · rw [hmoved.ctl, if_pos hc, ← hother]; rfl
    · rw [hmoved.account, if_pos hother.symm]
      exact (mem_insertBy _ _ _ _).2 (.inl rfl)
  · rcases h with hx | ⟨h1, h2, z, hz, hzc⟩ | hun
    · left
      rw [hmoved.account, if_neg (Ne.symm hne)]
      exact (mem_without _ _ _).2 ⟨hx, hc⟩
    · refine .inr (.inl ⟨?_, ?_, z, ?_, hzc⟩)
      · rw [hmoved.ctl, if_neg hc]; exact h1
      · rw [hmoved.ctl, if_neg hc]; exact h2
      · rw [hmoved.account, if_pos hother.symm]
        refine (mem_insertBy _ _ _ _).2 (.inr ((mem_without _ _ _).2 ⟨by rw [hother]; exact hz, ?_⟩))
        rw [hzc]; exact hc
    · refine .inr (.inr fun r z hz => ?_)
      rw [hmoved.account] at hz
      split at hz
      · rcases (mem_insertBy _ _ _ _).1 hz with e | hz
        · rw [e]; exact Ne.symm hc
        · exact hun _ z ((mem_without _ _ _).1 hz).1
      · exact hun _ z ((mem_without _ _ _).1 hz).1

theorem bits_stop_any (s : State) (cause : StopCause) (c : Chan) : Bits (s.stopOne cause c) (s.stop cause c) :=
  bits_stopTree treeDepth cause c s

theorem LossDone.takeLoss {lost : Rail} {x : Charge} {s : State} (h : LossDone lost x s) (y : LossEntry) :
    LossDone lost x (s.takeLoss lost y) := by
  rcases takeLoss_cases s lost y with ⟨-, e⟩ | ⟨-, -, e⟩ | ⟨r, v, -, hm, e⟩ <;> rw [e]
  · exact h
  · exact (h.standsOr (standsOr_stopOne s _ _ _) (shrinks_stopOne s _ _)).bits (bits_stop_any s _ _)
  · obtain ⟨hne, -, -, hv⟩ := moveOf_eq_some hm
    exact ((h.bits (bit_shed hv).bits).switchOne hne y.charge).bits (bits_enterSwitchover _ _ _ _)

theorem switchOne_grants (s : State) (x : Charge) (lost new : Rail) :
    (s.switchOne x lost new).grantCounter = s.grantCounter := (moved_switchOne s x lost new).grants

theorem takeLoss_grants (s : State) (lost : Rail) (y : LossEntry) :
    (s.takeLoss lost y).grantCounter = s.grantCounter := by
  rcases takeLoss_cases s lost y with ⟨-, e⟩ | ⟨-, -, e⟩ | ⟨r, v, -, hm, e⟩ <;> rw [e]
  · exact (grants_bits (bits_stop_any s _ _)).trans (stopOne_grants s _ _)
  · rw [grants_bits (bits_enterSwitchover _ _ _ _), switchOne_grants,
      grants_bits (bit_shed (moveOf_eq_some hm).2.2.2).bits]

/-! ### The loss list -/

theorem lossPrecedes_iff (x y : LossEntry) : x.precedes y = true ↔
    y.priority < x.priority ∨ x.priority = y.priority ∧ x.charge.grantNumber < y.charge.grantNumber := by
  simp [LossEntry.precedes]

theorem lossList_sorted (s : State) (r : Rail) : (s.lossList r).Pairwise fun x y => y.precedes x = false := by
  refine sortBy_sorted (fun x y z hxy hyz => ?_) (fun x y hxy => ?_) _
  · rw [Bool.eq_false_iff, Ne, lossPrecedes_iff] at *
    omega
  · rw [lossPrecedes_iff] at hxy
    rw [Bool.eq_false_iff, Ne, lossPrecedes_iff]
    omega

theorem lossList_priority {s : State} {r : Rail} {x : LossEntry} (h : x ∈ s.lossList r) :
    x.priority = (s.dem x.charge.chan).priority := by
  obtain ⟨y, -, rfl⟩ := List.mem_map.1 ((mem_sortBy _ _ _).1 h)
  rfl

theorem getLast?_appendNotice {q : List Notice} {n : Notice} (h : (appendNotice q n).length < 32) :
    (appendNotice q n).getLast? = some n := by
  have hroom : q.length < 32 := by
    rw [appendNotice_length] at h
    split at h <;> omega
  unfold appendNotice noticeCapacity
  rw [if_pos hroom]
  simp

/-! ### A channel that moves, its cascade apart from it -/

/-- In a forest a stop's cascade leaves every other channel that is not deeper. -/
theorem stopTree_leaves {depth : Chan → Nat} : ∀ {n : Nat} {cause : StopCause} {c j : Chan} {s : State},
    IsDepth s depth → depth j ≤ depth c → j ≠ c →
      (stopTree n cause c s).ctl j = s.ctl j ∧
        ∀ r, ∀ y ∈ (s.account r).charges, y.chan = j → y ∈ ((stopTree n cause c s).account r).charges
  | n, cause, c, j, s, hd, hj, hne => by
    have hone : (s.stopOne cause c).ctl j = s.ctl j ∧
        ∀ r, ∀ y ∈ (s.account r).charges, y.chan = j → y ∈ ((s.stopOne cause c).account r).charges := by
      refine ⟨by rw [stopOne_ctl, if_neg hne], fun r y hy hc => ?_⟩
      rw [stopOne_account, mem_without]
      exact ⟨hy, by rw [hc]; exact hne⟩
    cases n with
    | zero => exact hone
    | succ n =>
      rw [stopTree_succ]
      split
      next =>
        refine (List.foldlRecOn _ _ (motive := fun u : State => u.config = s.config ∧ u.ctl j = s.ctl j ∧
          ∀ r, ∀ y ∈ (s.account r).charges, y.chan = j → y ∈ (u.account r).charges)
          ⟨(moves_stopOne s cause c).kept.config, hone⟩ fun u hu k hk => ?_).2
        obtain ⟨hconf, hctl, hacc⟩ := hu
        have hdu : IsDepth u depth := by
          have hcfg (i : Chan) : u.cfg i = s.cfg i := by rw [State.cfg, hconf]; rfl
          exact ⟨fun i hi => hd.root i (by rwa [hcfg] at hi), fun i p hi => by
            rw [hcfg] at hi ⊢; exact hd.link i p hi⟩
        have hdk := (hd.link k c ((State.mem_children s c k).1 hk)).1
        split
        · obtain ⟨h1, h2⟩ := stopTree_leaves (n := n) (cause := .parentLost) (c := k) (j := j) hdu (by omega)
            (fun e => by rw [e] at hj; omega)
          exact ⟨(stopTree_config n _ k u).trans hconf, h1.trans hctl, fun r y hy hc => h2 r y (hacc r y hy hc) hc⟩
        · exact ⟨hconf, hctl, hacc⟩
      next => exact hone

/-- A cascade leaves its own channel. -/
theorem cascade_leaves {s : State} (hf : ForestLaw s.config) (c : Chan) : (s.cascade c).ctl c = s.ctl c ∧
    ∀ r, ∀ y ∈ (s.account r).charges, y.chan = c → y ∈ ((s.cascade c).account r).charges := by
  obtain ⟨depth, hd⟩ := (forestLaw_iff s).1 hf
  refine (List.foldlRecOn _ _ (motive := fun u : State => u.config = s.config ∧ u.ctl c = s.ctl c ∧
    ∀ r, ∀ y ∈ (s.account r).charges, y.chan = c → y ∈ (u.account r).charges)
    ⟨rfl, rfl, fun _ _ h _ => h⟩ fun u hu k hk => ?_).2
  obtain ⟨hconf, hctl, hacc⟩ := hu
  have hcfg (i : Chan) : u.cfg i = s.cfg i := by rw [State.cfg, hconf]; rfl
  have hdu : IsDepth u depth :=
    ⟨fun i hi => hd.root i (by rwa [hcfg] at hi), fun i p hi => by rw [hcfg] at hi ⊢; exact hd.link i p hi⟩
  have hdk := (hd.link k c ((State.mem_children s c k).1 hk)).1
  split
  · obtain ⟨h1, h2⟩ := stopTree_leaves (n := treeDepth) (cause := .parentLost) (c := k) (j := c) hdu (by omega)
      (fun e => by rw [e] at hdk; omega)
    exact ⟨(stop_config u _ k).trans hconf, h1.trans hctl, fun r y hy hc => h2 r y (hacc r y hy hc) hc⟩
  · exact ⟨hconf, hctl, hacc⟩

theorem enterSwitchover_leaves {s : State} (hf : ForestLaw s.config) (x : Charge) (lost new : Rail) :
    ((s.moveCharge x new).enterSwitchover x.chan lost new).ctl x.chan =
        (s.ctl x.chan).switched (s.cfg x.chan) new ∧
      x ∈ (((s.moveCharge x new).enterSwitchover x.chan lost new).account new).charges := by
  have hmoved := moved_switchOne s x lost new
  have hctl : (s.switchOne x lost new).ctl x.chan = (s.ctl x.chan).switched (s.cfg x.chan) new := by
    rw [hmoved.ctl, if_pos rfl]
  have hmem : x ∈ ((s.switchOne x lost new).account new).charges := by
    rw [hmoved.account, if_pos rfl]
    exact (mem_insertBy _ _ _ _).2 (.inl rfl)
  rw [enterSwitchover_moveCharge]
  split
  · obtain ⟨h1, h2⟩ := cascade_leaves (s := s.switchOne x lost new) (by rw [hmoved.config]; exact hf) x.chan
    exact ⟨h1.trans hctl, h2 new x hmem rfl⟩
  · exact ⟨hctl, hmem⟩

theorem switchOne_noticesOf (s : State) (x : Charge) (lost new : Rail) (g : HostId)
    (h : s.receives g x.chan = true) : (s.switchOne x lost new).noticesOf g =
      appendNotice (s.noticesOf g) (channelRecord s g x.chan (.switched lost new) .switchover) := by
  unfold State.switchOne
  have hbefore : Moves s (((s.moveCharge x new).quiet x.chan).setCtl x.chan
      ((s.ctl x.chan).switched (s.cfg x.chan) new)) :=
    (((moves_uncharge s _).trans (moves_charge _ _ _)).trans (moves_quiet _ _)).trans (moves_setCtl _ _ _)
  rw [reportChannel_noticesOf, hbefore.kept.receives, if_pos h, hbefore.kept.channelRecord, State.ctl_setCtl]
  rfl

end Sys2Proof.Machine
end

section
/-! PROOFS. The loss expiry (O46). -/

namespace Sys2Proof.Machine

/-! ### Where a channel moves -/

/-- The feed of `c` has the other rail, which is UP (R120). -/
def MayMove (s : State) (lost : Rail) (c : Chan) : Prop :=
  (s.rail lost.other).state = .up ∧
    ((s.cfg c).feed = .aThenB ∨ (s.cfg c).feed = .bThenA ∨
      (s.cfg c).feed = .aOnly ∧ lost = .b ∨ (s.cfg c).feed = .bOnly ∧ lost = .a)

/-- R120's table of feeds and lost rails. -/
theorem find?_feedRails (f : Feed) (lost r : Rail) : (feedRails f).find? (fun q => q ≠ lost) = some r ↔
    r = lost.other ∧ (f = .aThenB ∨ f = .bThenA ∨ f = .aOnly ∧ lost = .b ∨ f = .bOnly ∧ lost = .a) := by
  cases f <;> cases lost <;> cases r <;> decide

theorem isUp_iff (s : State) (r : Rail) : s.isUp r = true ↔ (s.rail r).state = .up := by
  simp [State.isUp]

theorem mayMove_iff (s : State) (lost r : Rail) (c : Chan) : s.otherRail c lost = some r ∧ s.isUp r = true ↔
    r = lost.other ∧ MayMove s lost c := by
  unfold State.otherRail MayMove
  rw [find?_feedRails, isUp_iff]
  constructor
  · rintro ⟨⟨rfl, hfeed⟩, hup⟩
    exact ⟨rfl, hup, hfeed⟩
  · rintro ⟨rfl, hup, hfeed⟩
    exact ⟨⟨rfl, hfeed⟩, hup⟩

theorem moveOf_of_mayMove {s : State} {lost : Rail} {x : LossEntry} {v : List Charge}
    (h : MayMove s lost x.charge.chan) (hv : s.victims lost.other x.priority x.charge.classAU = some v) :
    s.moveOf lost x = some (lost.other, v) := by
  obtain ⟨hother, hup⟩ := (mayMove_iff s lost _ _).2 ⟨rfl, h⟩
  unfold State.moveOf
  rw [hother]
  dsimp only
  rw [if_pos hup, hv]
  rfl

theorem moveOf_eq_none {s : State} {lost : Rail} {x : LossEntry}
    (h : ¬ MayMove s lost x.charge.chan ∨ s.victims lost.other x.priority x.charge.classAU = none) :
    s.moveOf lost x = none := by
  refine Option.eq_none_iff_forall_ne_some.2 fun ⟨r, v⟩ hm => ?_
  obtain ⟨-, hother, hup, hv⟩ := moveOf_eq_some hm
  obtain ⟨rfl, hmay⟩ := (mayMove_iff s lost r _).1 ⟨hother, hup⟩
  rcases h with h | h
  · exact h hmay
  · rw [h] at hv
    cases hv

/-! ### A channel that moves -/

/-- Rail monitors take no part in the law of the charges. -/
theorem ChargeCore.of_setRail {s : State} {r : Rail} {x : RailMonitor} (h : ChargeCore (s.setRail r x)) : ChargeCore s :=
  ⟨h.charged, h.carried, h.sorted, h.chans, h.numbers⟩

section Move

variable {s : State} {lost : Rail} {x : Charge} {p need : Nat} {v : List Charge}

/-- The state once the victims are shed and the channel has moved, its cascade included. -/
def State.movedTo (s : State) (v : List Charge) (x : Charge) (lost new : Rail) : State :=
  ((s.shed v).moveCharge x new).enterSwitchover x.chan lost new

theorem not_victim (hcore : ChargeCore s) (hx : x ∈ (s.account lost).charges)
    (hv : s.victims lost.other p need = some v) : ∀ y ∈ v, y.chan ≠ x.chan := by
  intro y hy e
  have hrail := (hcore.carried _ y ((victims_spec hv).1.subset hy)).1
  rw [e, (hcore.carried lost x hx).1] at hrail
  cases lost <;> simp [Rail.other] at hrail

theorem movedTo_self (hf : ForestLaw s.config) (hcore : ChargeCore s) (hx : x ∈ (s.account lost).charges)
    (hv : s.victims lost.other p need = some v) :
    (s.movedTo v x lost lost.other).ctl x.chan = (s.ctl x.chan).switched (s.cfg x.chan) lost.other ∧
      x ∈ ((s.movedTo v x lost lost.other).account lost.other).charges := by
  have hshed : Moves s (s.shed v) := (bit_shed hv).moves
  obtain ⟨hctl, hmem⟩ := enterSwitchover_leaves (s := s.shed v) (by rw [hshed.kept.config]; exact hf) x lost
    lost.other
  refine ⟨hctl.trans ?_, hmem⟩
  rw [shed_ctl_of_not_mem hv (not_victim hcore hx hv), hshed.cfg]

/-- The move leaves none of its channel's charges on the lost rail. -/
theorem movedTo_lost : ∀ y ∈ ((s.movedTo v x lost lost.other).account lost).charges, y.chan ≠ x.chan := by
  intro y hy
  have hmem := (bits_enterSwitchover (s.shed v) x lost lost.other).shrinks lost y hy
  rw [(moved_switchOne (s.shed v) x lost lost.other).account, if_neg (by cases lost <;> decide)] at hmem
  exact ((mem_without _ _ _).1 hmem).2

theorem shed_uncharges (hv : s.victims lost.other p need = some v) :
    ∀ y ∈ v, ((s.shed v).ctl y.chan).state.charged = false := by
  rw [shed_victims hv]
  clear hv
  induction v generalizing s with
  | nil => nofun
  | cons z v ih =>
    intro y hy
    rw [List.foldl_cons]
    rcases List.mem_cons.1 hy with rfl | hy
    · exact foldl_keeps (P := fun t : State => (t.ctl y.chan).state.charged = false)
        (fun t w ht => chargesNobody_stopOne t _ _ _ ht) v (stopOne_stopped s _ _)
    · exact ih y hy

theorem movedTo_victims (hcore : ChargeCore s) (hx : x ∈ (s.account lost).charges)
    (hv : s.victims lost.other p need = some v) :
    ∀ y ∈ v, ((s.movedTo v x lost lost.other).ctl y.chan).state.charged = false := by
  intro y hy
  refine (bits_enterSwitchover (s.shed v) x lost lost.other).chargesNobody y.chan ?_
  rw [(moved_switchOne (s.shed v) x lost lost.other).ctl, if_neg (not_victim hcore hx hv y hy)]
  exact shed_uncharges hv y hy

theorem movedTo_notice {new : Rail} {g : HostId} (h : s.receives g x.chan = true) :
    NextRecord s (s.movedTo [] x lost new) g (channelRecord s g x.chan (.switched lost new) .switchover) :=
  nextRecord_of_append rfl (switchOne_noticesOf s x lost new g h) (bits_enterSwitchover s x lost new).moves.grown

theorem movedTo_children {new : Rail} (hv : s.victims lost.other p need = some v)
    (hon : ((s.shed v).ctl x.chan).state = .isOn) {k : Chan} (hk : (s.cfg k).parent = some x.chan) :
    ((s.movedTo v x lost new).ctl k).state.charged = false := by
  unfold State.movedTo
  rw [enterSwitchover_moveCharge, if_pos hon]
  refine cascade_children ?_
  rwa [State.cfg, (moved_switchOne (s.shed v) x lost new).config, (bit_shed hv).moves.kept.config]

theorem takeLoss_of_moveOf {y : LossEntry} (hy : y.charge ∈ (s.account lost).charges) {r : Rail}
    (h : s.moveOf lost y = some (r, v)) : s.takeLoss lost y = s.movedTo v y.charge lost r := by
  unfold State.takeLoss State.movedTo
  rw [if_pos hy, h]

theorem takeLoss_of_not_moveOf {y : LossEntry} (hy : y.charge ∈ (s.account lost).charges)
    (h : s.moveOf lost y = none) : s.takeLoss lost y = s.stop .railLost y.charge.chan := by
  unfold State.takeLoss
  rw [if_pos hy, h]

end Move

/-! ### The whole expiry -/

theorem foldl_takeLoss_grants (l : List LossEntry) (lost : Rail) (s : State) :
    (l.foldl (fun u x => u.takeLoss lost x) s).grantCounter = s.grantCounter :=
  foldl_keeps (P := fun t : State => t.grantCounter = s.grantCounter)
    (fun t x ht => (takeLoss_grants t lost x).trans ht) l rfl

theorem loseRail_lossDone {s : State} {r : Rail} {x : Charge} (hx : x ∈ (s.account r).charges) :
    LossDone r x (s.loseRail r) := by
  have hlist : LossDone r x ((s.lossList r).foldl (fun u y => u.takeLoss r y) (s.railDown r)) :=
    foldl_keeps (P := LossDone r x) (fun t y ht => ht.takeLoss y) _ (s := s.railDown r) (.inl hx)
  rw [loseRail_eq]
  generalize ((s.lossList r).foldl (fun u y => u.takeLoss r y) (s.railDown r)) = u at hlist
  have hsame : SameCore u (u.reportRail (.railDown r)) := sameCore_deliver _ _ _
  unfold LossDone SwitchedTo Uncharged at *
  simpa only [hsame.ctl, hsame.account] using hlist

theorem loseRail_last {s : State} {r : Rail} {g : HostId} (hg : (s.port g).session = .opened)
    (hroom : ((s.loseRail r).noticesOf g).length < 32) :
    ((s.loseRail r).noticesOf g).getLast? = some (railRecord s (.railDown r)) := by
  have hlist : Moves (s.railDown r) ((s.lossList r).foldl (fun u y => u.takeLoss r y) (s.railDown r)) :=
    moves_foldl _ (fun t y => moves_takeLoss t r y) _ _
  rw [loseRail_eq] at hroom ⊢
  generalize ((s.lossList r).foldl (fun u y => u.takeLoss r y) (s.railDown r)) = u at hlist hroom
  rw [reportRail_noticesOf, if_pos (by rw [State.port, hlist.kept.ports]; exact hg)] at hroom ⊢
  rw [getLast?_appendNotice hroom, railRecord, hlist.kept.deviceTime]
  rfl

/-- Settles O46: by the invariant `LossDone` along the loss list, and by the two ways one channel's turn goes. -/
theorem lossExpiryTakesEveryChargeOff : Obligations.LossExpiryTakesEveryChargeOff := by
  refine ⟨fun r s hl hz hs => ?_, fun r x s => ⟨fun hx => if_neg hx, fun hx halloc hf => ?_⟩⟩
  · have hmoves := moves_loseRail s r
    have hrail (q : Rail) : (s.loseRail r).rail q =
        if q = r then { s.rail r with state := .down, lossTimer := none } else s.rail q := by
      rw [State.rail, hmoves.kept.rails]
      exact State.rail_setRail_of s r q _
    refine ⟨s.loseRail r, by simp [exec, execLossExpiry, hl, hz, hs], (hrail r).trans (if_pos rfl),
      (hrail r.other).trans (if_neg (by cases r <;> decide)), loseRail_charges s r, fun x hx => ?_,
      fun g hg hroom => loseRail_last hg hroom, ?_, ?_, hmoves.grown, s.lossList r, lossList_charges s r,
      fun x hx => lossList_priority hx, (lossList_sorted s r).imp fun h => ?_, rfl⟩
    · rcases loseRail_lossDone hx with h | h
      · rw [loseRail_charges] at h
        cases h
      · exact h
    · rw [loseRail_eq]
      exact foldl_takeLoss_grants _ _ _
    · rw [hmoves.kept.rails]
      exact hmoves.kept
    · rwa [Bool.eq_false_iff, Ne, lossPrecedes_iff, eq_comm (a := LossEntry.priority _)] at h
  · intro c t mayMove
    have hcore : ChargeCore s := ((allocationLaw_iff _).1 halloc).core.of_setRail
    refine ⟨fun v hmay hv => ?_, fun h => ?_⟩
    · have ht : t = s.movedTo v x.charge r r.other := takeLoss_of_moveOf hx (moveOf_of_mayMove hmay hv)
      have hmoves : Moves s t := moves_takeLoss s r x
      obtain ⟨hctl, hmem⟩ := movedTo_self hf hcore hx hv
      rw [← ht] at hctl hmem
      refine ⟨by rw [hctl]; rfl, by rw [hctl]; rfl, by rw [hctl]; rfl, by rw [hctl]; rfl, by rw [hctl]; rfl,
        by rw [hctl]; rfl, by rw [hctl]; rfl, by rw [hctl]; rfl, hmem, ?_, ?_, ?_, ?_, hmoves.kept, hmoves.grown⟩
      · rw [ht]
        exact movedTo_lost
      · rw [ht]
        exact movedTo_victims hcore hx hv
      · rintro g rfl hg
        rw [ht]
        exact movedTo_notice hg
      · intro hon k hk
        rw [ht]
        exact movedTo_children hv (by rw [shed_ctl_of_not_mem hv (not_victim hcore hx hv)]; exact hon) hk
    · have ht : t = s.stop .railLost c := takeLoss_of_not_moveOf hx (moveOf_eq_none h)
      rw [ht]
      exact stopTaken_stop s _ c

end Sys2Proof.Machine
end

section
/-! PROOFS. Commands whose event moves more than their own port, and the claim commands among them. -/

namespace Sys2Proof.Machine

/-! ### A command's event -/

/-- A frame whose body writes tables as `w` does and then moves on to `u`: executed, it leaves `u`, but for the port
it is answered on. -/
theorem exec_of_body_moves {i : Instr} {q : Request} {s w u : State} {r : Reply}
    (hi : requestOf i = some q) (ht : q.isTaken s = true) (hcmd : q.cmd ≠ codeClose)
    (hports : w.ports = s.ports) (hnotices : w.notices = s.notices)
    (hbody : commandBody q.cmd q.port q.operands (s.renewLease q.port) = (u, r))
    (hm : Moves (w.renewLease q.port) u) :
    ∃ ports, exec i s = .next { u with ports := ports } ∧
      KeepsTables (w.replied q r.result.code r.data) { u with ports := ports } ∧
      QueuesGrow s { u with ports := ports } := by
  have hkept := hm.kept
  have hgrown := hm.grown
  rw [renewLease_eq] at hkept hgrown
  have hu : u = ({ u with ports := s.ports } : State).renewLease q.port := by
    have hp : u.ports = ((s.setPort q.port (s.port q.port).renewed) : State).ports := by
      rw [hkept.ports]
      unfold State.setPort State.port
      rw [hports]
    rw [renewLease_eq]
    change u = { u with ports := ((s.setPort q.port (s.port q.port).renewed) : State).ports }
    rw [← hp]
  have hports' : (({ u with ports := s.ports } : State).replied q r.result.code r.data).ports =
      (w.replied q r.result.code r.data).ports := by
    unfold State.replied State.setPort State.port
    rw [hports]
  refine ⟨(({ u with ports := s.ports } : State).replied q r.result.code r.data).ports, ?_, ?_, fun g => ?_⟩
  · exact exec_of_body_writes hi ht hcmd (hbody.trans (congrArg (fun x => (x, r)) hu))
  · exact ⟨hkept.pm, hkept.deviceTime, hkept.config, hkept.lock, hports', hkept.claims, hkept.xf, hkept.enables,
      hkept.rails, hkept.pending⟩
  · obtain ⟨more, hmore, hclosed⟩ := hgrown g
    have hw : (w.setPort q.port (w.port q.port).renewed).noticesOf g = s.noticesOf g := by
      rw [State.setPort_noticesOf, State.noticesOf, hnotices]
      rfl
    rw [hw] at hmore hclosed
    refine ⟨more, hmore, fun hx => hclosed ?_⟩
    have hport (k : HostId) : w.port k = s.port k := by rw [State.port, hports]; rfl
    rw [State.port_setPort_of]
    split
    next e =>
      subst e
      rw [Port.renewed_session, hport]
      exact hx
    next => rwa [hport]

/-- The recomputation and the examinations that end an event. -/
theorem moves_settled (b s : State) : Moves s (State.settle b s.recompute) :=
  (moves_recompute s).trans (moves_settle b _)

theorem Formulaic.withPorts {s : State} (h : Formulaic s) (ports : Vector Port 4) :
    Formulaic { s with ports := ports } :=
  h.same ⟨fun _ => .refl _, fun _ _ => rfl, fun _ => rfl, fun _ => Iff.rfl⟩ rfl

theorem AllocationLaw.balanced {s : State} (h : AllocationLaw s) : Balanced s := ((allocationLaw_iff s).1 h).balanced

/-- Under the allocation law an event that ends with a recomputation leaves demand at the formulas. -/
theorem formulaic_settled {s : State} (b : State) (h : Balanced s) : Formulaic (State.settle b s.recompute) :=
  formulaic_settle (balanced_recompute h) (formulaic_recompute s)

theorem Balanced.setClaims {s : State} (h : Balanced s) (claims : Vector (Vector (Option Claim) 4) 16) :
    Balanced { s with claims := claims } := h.of_core rfl rfl rfl rfl fun _ => rfl

theorem Balanced.setPort {s : State} (h : Balanced s) (g : HostId) (p : Port) : Balanced (s.setPort g p) :=
  h.of_core rfl rfl rfl rfl fun _ => rfl

theorem Balanced.renewLease {s : State} (h : Balanced s) (g : HostId) : Balanced (s.renewLease g) := by
  rw [renewLease_eq]
  exact h.setPort g _

/-- Only the claims of the written state are left to say. -/
theorem KeepsTables.withClaims {s t : State} {claims : Vector (Vector (Option Claim) 4) 16} {q : Request}
    {code : Byte} {data : List Byte}
    (h : KeepsTables (({ s with claims := claims } : State).replied q code data) t) :
    KeepsTables (({ s with claims := t.claims } : State).replied q code data) t :=
  ⟨h.pm, h.deviceTime, h.config, h.lock, h.ports, rfl, h.xf, h.enables, h.rails, h.pending⟩

/-! ### CLAIM and RELEASE -/

theorem renewLease_setClaim (s : State) (h : HostId) (c : Chan) (g : HostId) (x : Option Claim) :
    (s.setClaim c g x).renewLease h = (s.renewLease h).setClaim c g x := by
  rw [renewLease_eq, renewLease_eq]
  rfl

theorem renewLease_claimOf (s : State) (h : HostId) (c : Chan) (g : HostId) :
    (s.renewLease h).claimOf c g = s.claimOf c g := by
  rw [renewLease_eq, State.setPort_claimOf]

theorem renewLease_deviceTime (s : State) (h : HostId) : (s.renewLease h).deviceTime = s.deviceTime := by
  rw [renewLease_eq, State.setPort_deviceTime]

theorem claimChecked_taken {s : State} {h : HostId} {l c : Chan} (hv : (s.viewEntry h l).physical = some c)
    (ha : (s.cfg c).admin ≠ .retired) (hpol : (s.cfg c).policy = .any ∨ (s.cfg c).policy = .all)
    (hset : (s.cfg c).claimants.getLsbD h.val = true) (priority : Nat) (tag : BitVec 16) :
    claimChecked h l priority tag s = (s.takeClaim h c priority tag,
      okReply ([boolByte (s.claimOf c h).isSome] ++ be32 s.deviceTime ++
        [demandFlags ((s.takeClaim h c priority tag).dem c),
          byteOf ((s.takeClaim h c priority tag).dem c).priority])) := by
  have hn : ¬ ((s.cfg c).policy = .line ∨ (s.cfg c).policy = .pinned) := by
    rcases hpol with e | e <;> simp [e]
  have hadm : ChannelConfig.admits (s.cfg c) h = true := hset
  simp [claimChecked, hv, ha, hn, hadm]

/-- What a claim record written with its recomputation and examinations leaves, whoever is answered. -/
theorem claimWritten {s u : State} {h : HostId} {c : Chan} {x : Option Claim} {b : State}
    (hu : u = State.settle b ((s.setClaim c h x).renewLease h).recompute) :
    Moves ((s.setClaim c h x).renewLease h) u ∧
      (∀ k g, u.claimOf k g = if k = c ∧ g = h then x else s.claimOf k g) ∧ (Balanced s → Formulaic u) := by
  subst hu
  have hm := moves_settled b ((s.setClaim c h x).renewLease h)
  refine ⟨hm, fun k g => ?_, fun hb => formulaic_settled _ ?_⟩
  · rw [hm.claimOf, renewLease_claimOf, State.claimOf_setClaim]
  · exact Balanced.renewLease (hb.setClaims _) h

/-- Settles O23: the record is written on the caller's slot, and the event ends with `recompute` and `settle`. -/
theorem claimIsRecorded : Obligations.ClaimIsRecorded := by
  intro h seq p t1 t0 l c s ops q ht hp hv ha hpol hset
  set s1 := s.renewLease h with hs1
  have hv1 : (s1.viewEntry h l).physical = some c := by rw [hs1, renewLease_viewEntry]; exact hv
  have hcfg1 : s1.cfg c = s.cfg c := renewLease_cfg s h c
  have hbody : claimBody h ops s1 = _ :=
    (claimBody_checked l hp t1 t0 h s1).trans (claimChecked_taken hv1 (by rwa [hcfg1]) (by rwa [hcfg1])
      (by rwa [hcfg1]) _ _)
  have hu : s1.takeClaim h c p.toNat (word16 t1 t0) = State.settle s1
      ((s.setClaim c h (some ⟨.active, p.toNat, word16 t1 t0, s.deviceTime⟩)).renewLease h).recompute := by
    rw [renewLease_setClaim, ← renewLease_deviceTime s h]
    rfl
  generalize s1.takeClaim h c p.toNat (word16 t1 t0) = u at hbody hu
  obtain ⟨hm, hclaims, hform⟩ := claimWritten hu
  obtain ⟨ports, hexec, hkept, hgrown⟩ := exec_of_body_moves (i := .claim h seq ops) (q := q)
    (w := s.setClaim c h (some ⟨.active, p.toNat, word16 t1 t0, s.deviceTime⟩)) rfl ht (by simp only [q]; decide)
    rfl rfl hbody hm
  refine ⟨_, hexec, hclaims, fun hl => (hform hl.balanced).withPorts ports, ?_, hgrown⟩
  rw [renewLease_claimOf, renewLease_deviceTime] at hkept
  exact hkept.withClaims

theorem releaseBody_taken {s : State} {h : HostId} {l c : Chan} {x : Claim}
    (hv : (s.viewEntry h l).physical = some c) (hx : s.claimOf c h = some x) :
    releaseBody h [chanByte l] s = (s.takeRelease h c, okReply ([byteOf x.priority] ++ be16 x.tag ++
      [demandFlags ((s.takeRelease h c).dem c), byteOf ((s.takeRelease h c).dem c).priority])) := by
  simp [releaseBody, hv, hx]

theorem releaseBody_noClaim {s : State} {h : HostId} {l c : Chan} (hv : (s.viewEntry h l).physical = some c)
    (hx : s.claimOf c h = none) : releaseBody h [chanByte l] s = (s, refuse .noClaim) := by
  simp [releaseBody, hv, hx]

/-- Settles O24: the caller's slot is emptied, and the event ends with `recompute` and `settle`. -/
theorem releaseRemovesTheClaim : Obligations.ReleaseRemovesTheClaim := by
  intro h seq l c s q ht hv
  set s1 := s.renewLease h with hs1
  have hv1 : (s1.viewEntry h l).physical = some c := by rw [hs1, renewLease_viewEntry]; exact hv
  have hclaim1 : s1.claimOf c h = s.claimOf c h := renewLease_claimOf s h c h
  refine ⟨fun hn => ?_, fun x hx => ?_⟩
  · refine exec_of_body_reads (i := .release h seq [chanByte l]) (q := q) (r := refuse .noClaim) rfl ht
      (by simp only [q]; decide) ?_
    exact releaseBody_noClaim hv1 (hclaim1.trans hn)
  · have hbody : releaseBody h [chanByte l] s1 = _ := releaseBody_taken hv1 (hclaim1.trans hx)
    have hu : s1.takeRelease h c = State.settle s1 ((s.setClaim c h none).renewLease h).recompute := by
      rw [renewLease_setClaim]
      rfl
    generalize s1.takeRelease h c = u at hbody hu
    obtain ⟨hm, hclaims, hform⟩ := claimWritten hu
    obtain ⟨ports, hexec, hkept, hgrown⟩ := exec_of_body_moves (i := .release h seq [chanByte l]) (q := q)
      (w := s.setClaim c h none) rfl ht (by simp only [q]; decide) rfl rfl hbody hm
    exact ⟨_, hexec, hclaims, fun hl => (hform hl.balanced).withPorts ports, hkept.withClaims, hgrown⟩

/-! ### Claims that go with a session -/

theorem renewLease_removeClaims (s : State) (h : HostId) (named : Chan → HostId → Bool) :
    (s.removeClaims named).renewLease h = (s.renewLease h).removeClaims named := by
  rw [renewLease_eq, renewLease_eq, State.removeClaims_frame s, State.removeClaims_frame (s.setPort _ _)]
  have hc : ((s.setPort h (s.port h).renewed).removeClaims named).claims = (s.removeClaims named).claims := rfl
  rw [hc]
  rfl

theorem Balanced.removeClaims {s : State} (h : Balanced s) (named : Chan → HostId → Bool) :
    Balanced (s.removeClaims named) := by
  rw [State.removeClaims_frame]
  exact h.setClaims _

/-- A silent drop, with the examinations that follow. -/
theorem droppedSilently (b s : State) (named : Chan → HostId → Bool) :
    Moves (s.removeClaims named) (State.settle b (s.dropSilently named)) ∧
      (Balanced s → Formulaic (State.settle b (s.dropSilently named))) :=
  ⟨moves_settled b _, fun hb => formulaic_settled b (hb.removeClaims named)⟩

theorem renewLease_isOrphan (s : State) (h : HostId) (c : Chan) (g : HostId) :
    (s.renewLease h).isOrphan c g = s.isOrphan c g := by
  rw [isOrphan_eq, isOrphan_eq, renewLease_claimOf]

theorem renewLease_port_session (s : State) (h g : HostId) :
    ((s.renewLease h).port g).session = (s.port g).session := by
  by_cases e : g = h
  · rw [e, renewLease_session]
  · rw [renewLease_port_ne e]

theorem renewLease_holdsLock (s : State) (h : HostId) : (s.renewLease h).holdsLock h = s.holdsLock h := by
  unfold State.holdsLock
  rw [renewLease_lock]

/-- Settles O20: the session of the named host decides, and a silent drop of its orphans does the rest. -/
theorem dropClaimsRemovesOrphans : Obligations.DropClaimsRemovesOrphans := by
  intro h g seq s q ht hl
  have hlock : (s.renewLease h).holdsLock h = true := by rw [renewLease_holdsLock, holdsLock_iff]; exact hl
  have hsession : ((s.renewLease h).port g).session = (s.port g).session := renewLease_port_session s h g
  refine ⟨fun ho => ?_, fun hc => ?_, fun hp => ?_⟩
  · refine exec_of_body_reads (i := .dropClaims h seq [hostByte g]) (q := q) (r := refuse .hostOpen) rfl ht
      (by simp only [q]; decide) ?_
    change dropClaimsBody h [hostByte g] (s.renewLease h) = _
    simp [dropClaimsBody, hlock, hsession, ho, q]
  · refine exec_of_body_reads (i := .dropClaims h seq [hostByte g]) (q := q) (r := okReply [0]) rfl ht
      (by simp only [q]; decide) ?_
    change dropClaimsBody h [hostByte g] (s.renewLease h) = _
    simp [dropClaimsBody, hlock, hsession, hc, q]
  · set named : Chan → HostId → Bool := fun c k => k = g && s.isOrphan c k with hnamed
    have hnamed1 : (fun c k => k = g && (s.renewLease h).isOrphan c k : Chan → HostId → Bool) = named := by
      funext c k
      rw [renewLease_isOrphan]
    have hcount : (s.renewLease h).countClaims named = s.countClaims named := by
      rw [renewLease_eq]
      rfl
    have hbody : dropClaimsBody h [hostByte g] (s.renewLease h) =
        (State.settle (s.renewLease h) ((s.renewLease h).dropSilently named), okReply [byteOf (s.countClaims named)]) := by
      rw [← hcount, ← hnamed1]
      simp [dropClaimsBody, hlock, hsession, hp]
    obtain ⟨hm, hform⟩ := droppedSilently (s.renewLease h) (s.renewLease h) named
    generalize State.settle (s.renewLease h) ((s.renewLease h).dropSilently named) = u at hbody hm hform
    rw [← renewLease_removeClaims] at hm
    obtain ⟨ports, hexec, hkept, hgrown⟩ := exec_of_body_moves (i := .dropClaims h seq [hostByte g]) (q := q)
      (w := s.removeClaims named) rfl ht (by simp only [q]; decide) rfl rfl hbody hm
    refine ⟨_, hexec, fun c k => ?_, fun ha => (hform (ha.balanced.renewLease h)).withPorts ports, ?_, hgrown⟩
    · have hc : u.claimOf c k = (s.removeClaims named).claimOf c k := by
        rw [hm.claimOf, renewLease_claimOf]
      refine hc.trans ?_
      rw [State.removeClaims_claimOf]
      by_cases hk : k = g <;> simp [hnamed, isOrphan_eq, hk]
    · rw [State.removeClaims_frame, hnamed, countOrphans_eq] at hkept
      exact hkept.withClaims

/-! ### CLOSE and the lapse -/

section Ended

variable {b s u : State} {h : HostId} {x : Session}

theorem Balanced.endSession (hb : Balanced s) (h : HostId) (x : Session) : Balanced (s.endSession h x) := by
  unfold State.endSession State.freeLock
  split
  · exact hb.of_core rfl rfl rfl rfl fun _ => rfl
  · exact hb.of_core rfl rfl rfl rfl fun _ => rfl

/-- All that the end of a session leaves alone. -/
theorem endSession_frame (s : State) (h : HostId) (x : Session) :
    s.endSession h x = { s with
      ports := (s.endSession h x).ports, lock := (s.endSession h x).lock, notices := (s.endSession h x).notices } := by
  unfold State.endSession State.freeLock
  split <;> rfl

/-- What the end of a session leaves when every claim of its host goes with it. -/
structure EndedSilently (s u : State) (h : HostId) (x : Session) : Prop where
  port : u.port h = { s.port h with session := x, leaseTimer := none, replay := none }
  others : ∀ g, g ≠ h → u.port g = s.port g
  lock : u.lock = if s.lock = some h then none else s.lock
  notices : u.noticesOf h = []
  claims : ∀ c g, u.claimOf c g = if g = h then none else s.claimOf c g
  formulaic : Balanced s → Formulaic u
  kept : KeepsTables { s with ports := u.ports, lock := u.lock, claims := u.claims } u

theorem endedSilently (hx : x ≠ .opened)
    (hu : u = State.settle b ((s.endSession h x).dropSilently fun _ g => g = h)) : EndedSilently s u h x := by
  obtain ⟨hm, hform⟩ := droppedSilently b (s.endSession h x) fun _ g => g = h
  rw [← hu] at hm hform
  have hports : u.ports = (s.endSession h x).ports := hm.kept.ports
  have hport (g : HostId) : u.port g = (s.endSession h x).port g := by rw [State.port, hports]; rfl
  have hclosed : ((s.endSession h x).port h).session ≠ .opened := by
    rw [endSession_port, if_pos rfl]
    exact hx
  refine ⟨?_, fun g hg => ?_, ?_, ?_, fun c g => ?_, fun hb => hform (hb.endSession h x), ?_⟩
  · rw [hport, endSession_port, if_pos rfl]
  · rw [hport, endSession_port, if_neg hg]
  · exact hm.kept.lock.trans (endSession_lock s h x)
  · obtain ⟨-, -, hsame⟩ := hm.grown h
    refine (hsame hclosed).trans ?_
    change (s.endSession h x).noticesOf h = []
    rw [endSession_noticesOf, if_pos rfl]
  · rw [hm.claimOf]
    exact endSession_removed_claimOf s h x c g
  · have hk := hm.kept
    rw [State.removeClaims_frame, endSession_frame] at hk
    exact ⟨hk.pm, hk.deviceTime, hk.config, rfl, rfl, rfl, hk.xf, hk.enables, hk.rails, hk.pending⟩

end Ended

theorem closeBody_nil (h : HostId) (s : State) : closeBody h [] s =
    (State.settle s ((s.endSession h .closed).dropSilently fun _ g => g = h),
      okReply [byteOf (allChans.filter fun c => (s.claimOf c h).isSome).length]) := by
  have hcount := countClaims_of_host s h fun _ _ => true
  simp only [Bool.and_true, Bool.true_and] at hcount
  rw [← hcount]
  rfl

/-- An accepted CLOSE is answered and not stored (R186). -/
theorem exec_close {h : HostId} {seq : Byte} {s u : State} {data : List Byte}
    (ht : Request.isTaken ⟨h, seq, 0x03, []⟩ s = true) (hbody : closeBody h [] (s.renewLease h) = (u, okReply data)) :
    exec (.closeSession h seq []) s =
      .next (u.setPort h ((u.port h).gives (responseBytes 0x01 seq data))) := by
  have hstore : u.store h seq 0x03 [] (okReply data) = u := by
    unfold State.store
    rw [if_pos (by simp [okReply, codeClose])]
  rw [exec_request (q := ⟨h, seq, 0x03, []⟩) rfl, takeFrame_taken ht]
  change Host.Outcome.next (((closeBody h [] (s.renewLease h)).1.store h seq 0x03 []
    (closeBody h [] (s.renewLease h)).2).answer h seq (closeBody h [] (s.renewLease h)).2) = _
  rw [hbody, hstore]
  rfl

/-- Settles O18: `EndedSilently`, and the answer on the caller's own port. -/
theorem closeEndsTheSession : Obligations.CloseEndsTheSession := by
  intro h seq s ht
  have hexec := exec_close ht (closeBody_nil h (s.renewLease h))
  have hended := endedSilently (b := s.renewLease h) (s := s.renewLease h) (h := h) (x := .closed) (by decide) rfl
  generalize State.settle (s.renewLease h) (((s.renewLease h).endSession h .closed).dropSilently fun _ g => g = h) = u
    at hexec hended
  have hclaimOf (c : Chan) (g : HostId) := renewLease_claimOf s h c g
  refine ⟨_, hexec, ?_, fun g hg => ?_, ?_, hended.notices, fun c g => ?_, fun ha => ?_, ?_⟩
  · rw [State.port_setPort, hended.port, renewLease_port, renewed_keeps]
    simp only [hclaimOf]
    rfl
  · rw [State.port_setPort_of, if_neg hg, hended.others g hg, renewLease_port_ne hg]
  · rw [State.setPort_lock, hended.lock, renewLease_lock]
  · rw [State.setPort_claimOf, hended.claims, hclaimOf]
  · exact (hended.formulaic (ha.balanced.renewLease h)).withPorts _
  · have hk := hended.kept
    rw [renewLease_eq] at hk
    exact ⟨hk.pm, hk.deviceTime, hk.config, rfl, rfl, rfl, hk.xf, hk.enables, hk.rails, hk.pending⟩

/-- Settles O21: the orphan mode decides between `orphan` and a silent drop. -/
theorem lapseEndsTheLease : Obligations.LapseEndsTheLease := by
  intro h s hl ho hz
  have hexec : exec (.lapse h) s = .next (s.takeLapse h) := by simp [exec, execLapse, hl, ho, hz]
  cases hmode : (s.port h).orphanMode with
  | keep =>
    have htake : s.takeLapse h = (s.endSession h .lapsed).orphan h := by
      unfold State.takeLapse
      rw [hmode]
    have hclaims (c : Chan) (g : HostId) : (s.takeLapse h).claimOf c g =
        if g = h then (s.claimOf c g).map fun x => { x with state := .orphaned } else s.claimOf c g := by
      rw [htake, orphan_claimOf]
      split <;> rw [endSession_claimOf]
    rw [State.orphan_frame] at htake
    generalize ((s.endSession h .lapsed).orphan h).claims = claims at htake
    rw [htake] at hexec hclaims
    have hport := endSession_port s h .lapsed
    refine ⟨_, hexec, (hport h).trans (if_pos rfl), fun g hg => (hport g).trans (if_neg hg),
      endSession_lock s h .lapsed, (endSession_noticesOf s h .lapsed h).trans (if_pos rfl), fun _ => ⟨hclaims, ?_,
      fun g hg => (endSession_noticesOf s h .lapsed g).trans (if_neg hg)⟩, nofun⟩
    exact congrArg (fun t : State => { t with claims := claims }) (endSession_frame s h .lapsed)
  | drop =>
    have htake : s.takeLapse h = State.settle s ((s.endSession h .lapsed).dropSilently fun _ g => g = h) := by
      unfold State.takeLapse
      rw [hmode]
    have hended : EndedSilently s (s.takeLapse h) h .lapsed := endedSilently (by decide) htake
    refine ⟨_, hexec, hended.port, hended.others, hended.lock, hended.notices, nofun, fun _ => ⟨hended.claims,
      fun ha => hended.formulaic ha.balanced, hended.kept⟩⟩

end Sys2Proof.Machine
end

section
/-! PROOFS. SET_RAIL (O35). -/

namespace Sys2Proof.Machine

/-- The rail's record and its account's limit written (R27). -/
def State.withRail (s : State) (r : Rail) (x : RailConfig) : State :=
  (({ s with config := { s.config with rails := s.config.rails.setOf r x } } : State).setAccount r
    { s.account r with limit := x.limit })

theorem takeSetRail_eq (s : State) (r : Rail) (x : RailConfig) :
    s.takeSetRail r x = State.settle s (s.withRail r x) := rfl

theorem renewLease_withRail (s : State) (h : HostId) (r : Rail) (x : RailConfig) :
    (s.withRail r x).renewLease h = (s.renewLease h).withRail r x := by
  rw [renewLease_eq, renewLease_eq]
  rfl

theorem withRail_account (s : State) (r q : Rail) (x : RailConfig) :
    (s.withRail r x).account q = if q = r then { s.account r with limit := x.limit } else s.account q := by
  cases q <;> cases r <;> rfl

theorem renewLease_account (s : State) (h : HostId) (r : Rail) : (s.renewLease h).account r = s.account r := by
  rw [renewLease_eq, State.setPort_account]

section Operands

variable {s : State} {h : HostId} {l1 l0 loss restore : Byte} {r : Rail} (hl : s.holdsLock h = true)
  (hlimit : (word16 l1 l0).toNat ≤ 1000) (hloss : loss.toNat ≤ 15) (hrestore : 1 ≤ restore.toNat)

include hl hlimit hloss hrestore

theorem setRailBody_checked : setRailBody h [Rail.code r, l1, l0, loss, restore] s =
    if (word16 l1 l0).toNat < (s.account r).allocated then (s, refuse .overAllocated)
    else
      let t := s.takeSetRail r ⟨(word16 l1 l0).toNat, loss.toNat, restore.toNat⟩
      (t, okReply (be16Of (t.account r).limit ++ be16Of (t.account r).allocated ++ be16Of (t.account r).free)) := by
  simp [setRailBody, hl, hlimit, rangeOperand_eq (Nat.zero_le _) hloss,
    rangeOperand_eq hrestore (byte_toNat_le restore)]

end Operands

/-- Examinations leave every limit. -/
theorem settle_limit (before after : State) (q : Rail) :
    ((State.settle before after).account q).limit = (after.account q).limit :=
  settle_keeps (P := fun t => (t.account q).limit = (after.account q).limit) (fun _ h => h)
    (fun _ hv h => by rw [grantEntry_limit, (slims_shed hv).limit, h])
    (fun cause c _ h => ((slims_fault _ cause c).limit q).trans h) rfl

/-- Settles O35: the written limit stands through the examinations, and without a queue there are none. -/
theorem setRailKeepsTheAllocation : Obligations.SetRailKeepsTheAllocation := by
  intro h seq l1 l0 loss restore r s ops q limit ht hl hlimit hloss hrestore
  have hlock : (s.renewLease h).holdsLock h = true := by rw [renewLease_holdsLock, holdsLock_iff]; exact hl
  have hchecked := setRailBody_checked (s := s.renewLease h) (r := r) hlock hlimit hloss hrestore
  rw [renewLease_account] at hchecked
  refine ⟨fun hover => ?_, fun hfits => ?_⟩
  · exact exec_of_body_reads (i := .setRail h seq ops) (q := q) (r := refuse .overAllocated) rfl ht
      (by simp only [q]; decide) (hchecked.trans (if_pos hover))
  · set x : RailConfig := ⟨limit, loss.toNat, restore.toNat⟩ with hx
    set w := (s.withRail r x).renewLease h with hw
    have hbody : setRailBody h ops (s.renewLease h) = (State.settle (s.renewLease h) w,
        okReply (be16Of ((State.settle (s.renewLease h) w).account r).limit ++
          be16Of ((State.settle (s.renewLease h) w).account r).allocated ++
          be16Of ((State.settle (s.renewLease h) w).account r).free)) := by
      rw [hw, renewLease_withRail]
      exact hchecked.trans (if_neg (Nat.not_lt.2 hfits))
    have haccount (p : Rail) : w.account p = if p = r then { s.account r with limit := limit } else s.account p := by
      rw [hw, renewLease_account, withRail_account]
    have hmoves := moves_settle (s.renewLease h) w
    have hlimits := settle_limit (s.renewLease h) w
    have hidle (he : s.queue = []) : State.settle (s.renewLease h) w = w :=
      settle_of_no_queue (by rw [hw, renewLease_eq]; exact he)
    have hother : r.other ≠ r := by cases r <;> decide
    generalize State.settle (s.renewLease h) w = u at hbody hmoves hlimits hidle
    have hlimitr : (u.account r).limit = limit := by rw [hlimits, haccount, if_pos rfl]
    obtain ⟨ports, hexec, hkept, hgrown⟩ := exec_of_body_moves (i := .setRail h seq ops) (q := q)
      (w := s.withRail r x) rfl ht (by simp only [q]; decide) rfl rfl hbody hmoves
    refine ⟨_, hexec, hlimitr, ?_, ?_, hgrown, fun he => ⟨?_, ?_, ?_⟩⟩
    · change (u.account r.other).limit = _
      rw [hlimits, haccount, if_neg hother]
    · rw [Account.free, hlimitr] at hkept
      exact ⟨hkept.pm, hkept.deviceTime, hkept.config, hkept.lock, hkept.ports, hkept.claims, hkept.xf,
        hkept.enables, hkept.rails, hkept.pending⟩
    · rw [hidle he, hw, renewLease_eq]
      rfl
    · change u.account r = _
      rw [hidle he, haccount, if_pos rfl]
    · change u.account r.other = _
      rw [hidle he, haccount, if_neg hother]

end Sys2Proof.Machine
end

section
/-! PROOFS. A channel at rest: what the arbiters and the other channels leave of it. -/

namespace Sys2Proof.Machine

/-! ### Channels at rest -/

/-- No entry of the admission queue is the channel's. -/
def Unqueued (s : State) (c : Chan) : Prop := ∀ e ∈ s.queue, e.chan ≠ c

/-- The channel stands where no hand-on takes it elsewhere: in STOPPING, LATCHED or RETIRED, or in OFF while it is not
ENABLED or has no effective demand. -/
def AtRest (s : State) (c : Chan) : Prop :=
  (s.ctl c).state = .stopping ∨ (s.ctl c).state = .latched ∨ (s.ctl c).state = .retired ∨
    (s.ctl c).state = .off ∧ ((s.cfg c).admin ≠ .enabled ∨ (s.dem c).effective = false)

/-- From `s` to `t` nothing of channel `c` has moved but its demand item, and nothing waits or runs for it. -/
structure Shelved (s t : State) (c : Chan) : Prop where
  ctl : t.ctl c = { s.ctl c with demand := (t.ctl c).demand }
  unqueued : Unqueued t c
  cfg : t.cfg c = s.cfg c
  uncharged : Uncharged s c → Uncharged t c

section Steps

variable {s t u : State} {c j : Chan} {k : Controller}

theorem Shelved.refl (hq : Unqueued s c) : Shelved s s c := ⟨rfl, hq, rfl, id⟩

theorem Shelved.trans (h : Shelved s t c) (h' : Shelved t u c) : Shelved s u c :=
  ⟨by rw [h'.ctl, h.ctl], h'.unqueued, h'.cfg.trans h.cfg, fun hu => h'.uncharged (h.uncharged hu)⟩

theorem Shelved.state (h : Shelved s t c) : (t.ctl c).state = (s.ctl c).state := by rw [h.ctl]

theorem AtRest.uncharged (h : AtRest s c) : (s.ctl c).state.charged = false := by
  rcases h with h | h | h | ⟨h, -⟩ <;> rw [h] <;> rfl

theorem AtRest.ne_queued (h : AtRest s c) : (s.ctl c).state ≠ .queued := by
  rcases h with h | h | h | ⟨h, -⟩ <;> rw [h] <;> decide

theorem AtRest.lost (h : AtRest s c) (f : ChannelConfig) : (s.ctl c).lost f = { s.ctl c with demand := false } := by
  rcases h with h | h | h | ⟨h, -⟩ <;> simp [Controller.lost, h]

theorem AtRest.arrived (h : AtRest s c) (he : (s.dem c).effective = true) :
    (s.ctl c).arrived (s.cfg c) = { s.ctl c with demand := true } := by
  have hstays : ¬ ((s.ctl c).state = .off ∧ (s.cfg c).admin = .enabled) := by
    rintro ⟨hoff, hen⟩
    rcases h with h | h | h | ⟨-, h | h⟩
    · rw [hoff] at h; cases h
    · rw [hoff] at h; cases h
    · rw [hoff] at h; cases h
    · exact h hen
    · rw [he] at h; cases h
  rw [Controller.arrived, if_neg hstays]

/-- A turn puts none but its own channel's entry into the queue. -/
theorem Turns.mem_queue_of (h : Turns s t j k) {e : QueueEntry} (he : e ∈ t.queue) : e.chan = j ∨ e ∈ s.queue := by
  rw [h.queue, State.requeued] at he
  split at he
  · split at he
    · exact .inr he
    · rcases (mem_insertBy _ _ _ _).1 he with rfl | he
      · exact .inl rfl
      · exact .inr he
  · split at he
    · exact .inr (List.mem_filter.1 he).1
    · exact .inr he

/-- A turn of another channel. -/
theorem Turns.shelved_ne (h : Turns s t j k) (hj : c ≠ j) (hq : Unqueued s c) : Shelved s t c := by
  refine ⟨by rw [h.ctl_ne hj], fun e he => ?_, by rw [State.cfg, h.config]; rfl, fun hu r x hx => ?_⟩
  · rcases h.mem_queue_of he with hc | he
    · rw [hc]
      exact hj.symm
    · exact hq e he
  · rw [h.account, State.recharged] at hx
    split at hx
    · exact hu r x ((mem_without _ _ _).1 hx).1
    · exact hu r x hx

/-- A turn of the channel itself that moves its item alone. -/
theorem Turns.shelved_self (h : Turns s t c { s.ctl c with demand := k.demand }) (hs : (s.ctl c).state ≠ .queued)
    (hq : Unqueued s c) : Shelved s t c := by
  refine ⟨by rw [h.ctl_self], fun e he => ?_, by rw [State.cfg, h.config]; rfl, fun hu r x hx => ?_⟩
  · rw [h.queue, State.requeued, if_neg hs, if_neg hs] at he
    exact hq e he
  · rw [h.account, State.recharged] at hx
    split at hx
    · exact hu r x ((mem_without _ _ _).1 hx).1
    · exact hu r x hx

theorem mem_queue_of_enterQueued {s : State} {e : QueueEntry} {j : Chan} (h : e ∈ (s.enterQueued j).queue) :
    e.chan = j ∧ ((s.enterQueued j).ctl j).state = .queued ∨ e ∈ s.queue := by
  rcases (mem_insertBy _ _ _ _).1 h with rfl | h
  · exact .inl ⟨rfl, congrArg Controller.state (State.ctl_setCtl s j _)⟩
  · exact .inr h

theorem mem_queue_of_enterOff {s : State} {e : QueueEntry} {j : Chan} (h : e ∈ (s.enterOff j).queue) :
    e.chan = j ∧ ((s.enterOff j).ctl j).state = .queued ∨ e ∈ s.queue := by
  unfold State.enterOff at h ⊢
  dsimp only at h ⊢
  split at h
  next hw =>
    rw [if_pos hw]
    exact mem_queue_of_enterQueued h
  next => exact .inr h

theorem mem_queue_of_endWait {s : State} {e : QueueEntry} {j : Chan} (h : e ∈ (s.endWait j).queue) :
    e.chan = j ∧ ((s.endWait j).ctl j).state = .queued ∨ e ∈ s.queue := by
  unfold State.endWait at h ⊢
  split at h
  next hw =>
    rw [if_pos hw]
    exact mem_queue_of_enterQueued h
  next hw =>
    rw [if_neg hw]
    exact mem_queue_of_enterOff h

/-- The stop of a channel puts none but its own entry into the queue, and that where it ends in QUEUED. -/
theorem mem_queue_of_stopOne {s : State} {e : QueueEntry} {cause : StopCause} {j : Chan}
    (h : e ∈ (s.stopOne cause j).queue) :
    e.chan = j ∧ ((s.stopOne cause j).ctl j).state = .queued ∨ e ∈ s.queue := by
  unfold State.stopOne at h ⊢
  dsimp only at h ⊢
  rw [(sameCore_reportChannel _ _ _).queue] at h
  rw [(sameCore_reportChannel _ _ _).ctl]
  split at h
  next hd =>
    rw [if_pos hd]
    exact mem_queue_of_endWait (s := ((s.uncharge j).quiet j).setCtl j _) h
  next => exact .inr h

theorem shelved_stopOne (hj : c ≠ j) (hq : Unqueued s c) (cause : StopCause) : Shelved s (s.stopOne cause j) c := by
  refine ⟨by rw [stopOne_ctl, if_neg hj], fun e he => ?_, stopOne_cfg s cause j c,
    fun hu => (shrinks_stopOne s cause j).uncharged hu⟩
  rcases mem_queue_of_stopOne he with ⟨h, -⟩ | h
  · rw [h]
    exact hj.symm
  · exact hq e h

theorem Bit.shelved (h : Bit s t) (hr : AtRest s c) (hq : Unqueued s c) : Shelved s t c := by
  have hother {j : Chan} (hj : (s.ctl j).state.charged = true) : c ≠ j := by
    rintro rfl
    rw [hr.uncharged] at hj
    cases hj
  cases h with
  | draw n => exact ⟨rfl, hq, rfl, id⟩
  | arrived j he =>
    have ht := turns_demandArrival s j
    by_cases hj : c = j
    · subst hj
      rw [hr.arrived he] at ht
      exact Turns.shelved_self (k := { s.ctl c with demand := true }) ht hr.ne_queued hq
    · exact ht.shelved_ne hj hq
  | lost j hc _ =>
    have ht := turns_demandLoss hc
    by_cases hj : c = j
    · subst hj
      rw [hr.lost] at ht
      exact Turns.shelved_self (k := { s.ctl c with demand := false }) ht hr.ne_queued hq
    · exact ht.shelved_ne hj hq
  | released j hc _ => exact (turns_released hc).shelved_ne (hother hc) hq
  | reprioritized j =>
    refine ⟨by rw [reprioritize_ctl], fun e he => ?_, by rw [reprioritize_cfg], fun hu r x hx => ?_⟩
    · rcases reprioritize_cases s j with ⟨hs, -⟩ | ⟨x, hx, -, hs⟩ <;> rw [hs] at he
      · exact hq e he
      · rcases (mem_insertBy _ _ _ _).1 he with rfl | he
        · exact hq x hx
        · exact hq e (List.mem_filter.1 he).1
    · rw [reprioritize_account] at hx
      exact hu r x hx
  | stopped cause j hc => exact shelved_stopOne (hother hc) hq cause
  | shed r v _ hv =>
    exact List.foldlRecOn v (fun t x => t.stopOne .shed x.chan) (motive := fun t : State => Shelved s t c)
      (.refl hq) fun t ht x hx =>
        ht.trans (shelved_stopOne (hother (ChannelState.charged_of_closed (hv x hx))) ht.unqueued _)

theorem Act.shelved (h : Act s t) (hr : AtRest s c) (hq : Unqueued s c) : Shelved s t c := by
  cases h with
  | bit hb => exact hb.shelved hr hq
  | valued => exact ⟨by rw [valued_ctl], by rwa [Unqueued, valued_queue], (moves_valued s).cfg c, fun hu r x hx => by
      rw [valued_account] at hx; exact hu r x hx⟩
  | faulted cause j hc =>
    refine (turns_faultOne cause (ChannelState.charged_of_closed hc)).shelved_ne ?_ hq
    rintro rfl
    have := hr.uncharged
    rw [ChannelState.charged_of_closed hc] at this
    cases this
  | granted e r he _ =>
    have hg := granted_grantEntry s e.chan r
    have hne : c ≠ e.chan := (hq e he).symm
    refine ⟨by rw [hg.ctl, if_neg hne], fun x hx => ?_, (moves_grantEntry s e.chan r).cfg c, fun hu p x hx => ?_⟩
    · rw [hg.queue] at hx
      exact hq x (List.mem_filter.1 hx).1
    · rw [hg.account] at hx
      split at hx
      · rcases (mem_insertBy _ _ _ _).1 hx with rfl | hx
        · exact hne.symm
        · exact hu r x hx
      · exact hu p x hx

/-- A channel in STOPPING, LATCHED, RETIRED, or in OFF and not ENABLED, rests whatever its demand is. -/
def Firm (s : State) (c : Chan) : Prop :=
  (s.ctl c).state = .stopping ∨ (s.ctl c).state = .latched ∨ (s.ctl c).state = .retired ∨
    (s.ctl c).state = .off ∧ (s.cfg c).admin ≠ .enabled

theorem Firm.atRest (h : Firm s c) : AtRest s c := by
  rcases h with h | h | h | ⟨h, ha⟩
  · exact .inl h
  · exact .inr (.inl h)
  · exact .inr (.inr (.inl h))
  · exact .inr (.inr (.inr ⟨h, .inl ha⟩))

theorem Shelved.firm (h : Shelved s t c) (hf : Firm s c) : Firm t c := by
  unfold Firm
  rw [h.state, h.cfg]
  exact hf

/-- Through any run of small steps. -/
theorem Acts.shelved (h : Acts s t) (hf : Firm s c) (hq : Unqueued s c) : Shelved s t c :=
  h.keeps (P := fun t => Shelved s t c)
    (fun ha hs => hs.trans (ha.shelved (hs.firm hf).atRest hs.unqueued)) (.refl hq)

/-- An event's recomputation and examinations. -/
theorem acts_settled (b s : State) : Acts s (State.settle b s.recompute) :=
  (acts_recompute s).trans (acts_settle b _)

theorem QueueLaw.unqueued (h : QueueLaw s) (hc : (s.ctl c).state ≠ .queued) : Unqueued s c :=
  fun e he hx => hc ((h.1 c).2 ⟨e, he, hx⟩)

end Steps

end Sys2Proof.Machine
end

section
/-! PROOFS. HOLD (O27). -/

namespace Sys2Proof.Machine

/-! ### One-channel configuration commands -/

theorem channelCommand_eq {s : State} {h : HostId} (hl : s.lock = some h) (c : Chan) (taken : Chan → State × Reply) :
    channelCommand h [chanByte c] (s.renewLease h) taken = taken c := by
  have hlock : (s.renewLease h).holdsLock h = true := by rw [renewLease_holdsLock, holdsLock_iff]; exact hl
  simp [channelCommand, hlock]

theorem renewLease_setAdmin (s : State) (h : HostId) (c : Chan) (x : Admin) :
    (s.setAdmin c x).renewLease h = (s.renewLease h).setAdmin c x := by
  rw [State.setAdmin, State.setAdmin, renewLease_setCfg, renewLease_cfg]

theorem renewLease_queueLaw {s : State} (hq : QueueLaw s) (h : HostId) : QueueLaw (s.renewLease h) := by
  rw [renewLease_eq]
  exact hq

/-- The record with the admin state written, in the state with the lease renewed. -/
theorem setAdmin_renewed (s : State) (h : HostId) (c : Chan) (x : Admin) :
    ((s.renewLease h).setAdmin c x).ctl c = s.ctl c ∧
      ((s.renewLease h).setAdmin c x).cfg c = { s.cfg c with admin := x } := by
  refine ⟨renewLease_ctl s h c, ?_⟩
  rw [setAdmin_cfg_self, renewLease_cfg]

/-- A one-channel command that writes the admin state: what stands afterwards is `u`, but for the port answered on. -/
theorem exec_admin {i : Instr} {q : Request} {s u : State} {c : Chan} {x : Admin} {code : Byte}
    (hi : requestOf i = some q) (ht : q.isTaken s = true) (hcmd : q.cmd ≠ codeClose)
    (hbody : commandBody q.cmd q.port q.operands (s.renewLease q.port) = (u, okReply (u.statusData c)))
    (hm : Moves ((s.renewLease q.port).setAdmin c x) u) (hcode : adminCode x = code) :
    ∃ ports, exec i s = .next { u with ports := ports } ∧
      KeepsTables ((s.setCfg c { s.cfg c with admin := x }).replied q 0x01 [(u.ctl c).state.code, code])
        { u with ports := ports } ∧
      QueuesGrow s { u with ports := ports } := by
  have hdata : u.statusData c = [(u.ctl c).state.code, code] := by
    rw [State.statusData, hm.cfg, (setAdmin_renewed s q.port c x).2, hcode]
  rw [hdata] at hbody
  rw [← renewLease_setAdmin] at hm
  exact exec_of_body_moves (w := s.setAdmin c x) hi ht hcmd rfl rfl hbody hm

/-- The same where the admin state does not ask for the command: nothing happens. -/
theorem exec_admin_idle {i : Instr} {q : Request} {s : State} {c : Chan}
    (hi : requestOf i = some q) (ht : q.isTaken s = true) (hcmd : q.cmd ≠ codeClose)
    (hbody : commandBody q.cmd q.port q.operands (s.renewLease q.port) =
      (s.renewLease q.port, okReply ((s.renewLease q.port).statusData c))) :
    exec i s = .next (s.replied q 0x01 [(s.ctl c).state.code, adminCode (s.cfg c).admin]) := by
  rw [State.statusData, renewLease_ctl, renewLease_cfg] at hbody
  exact exec_of_body_reads hi ht hcmd hbody

/-! ### What a hold makes of a controller -/

section Held

variable {k : Controller} {f : ChannelConfig} (ha : f.admin = .held)

include ha

theorem rested_of_held (k : Controller) : (k.rested f).state = .off := by
  simp [Controller.rested, Controller.wantedBy, ha]

/-- R68's table. -/
theorem putHeld_state : (k.putHeld f).state = match k.state with
    | .queued => .off
    | .softstart | .isOn | .switchover => if f.dischargeTime = 0 then .off else .stopping
    | .retryWait => if k.discharge.isSome then .stopping else .off
    | .off => .off
    | .stopping => .stopping
    | .latched => .latched
    | .retired => .retired := by
  have hstop : (k.stopped f).state = if f.dischargeTime = 0 then .off else .stopping := by
    rw [stopped_state]
    by_cases hd : f.dischargeTime = 0 <;> simp [hd, ha]
  cases hs : k.state <;> simp only [Controller.putHeld, hs, hstop, rested_of_held ha]
  unfold Controller.abandoned
  split
  · rfl
  · exact rested_of_held ha _

theorem putHeld_firm {s : State} {c : Chan} (hc : s.ctl c = k.putHeld f) (hf : s.cfg c = f) : Firm s c := by
  have hoff : f.admin ≠ .enabled := by rw [ha]; decide
  have hstop (d : Prop) [Decidable d] : (if d then ChannelState.off else .stopping) = .stopping ∨
      (if d then ChannelState.off else .stopping) = .off := by
    by_cases hd : d <;> simp [hd]
  unfold Firm
  rw [hc, hf, putHeld_state ha]
  cases k.state with
  | queued | off => exact .inr (.inr (.inr ⟨rfl, hoff⟩))
  | softstart | isOn | switchover => exact (hstop _).imp id fun h => .inr (.inr ⟨h, hoff⟩)
  | retryWait =>
    cases k.discharge with
    | none => exact .inr (.inr (.inr ⟨rfl, hoff⟩))
    | some n => exact .inl rfl
  | stopping => exact .inl rfl
  | latched => exact .inr (.inl rfl)
  | retired => exact .inr (.inr (.inl rfl))

end Held

/-- After the controller's part of a hold the channel is firm: its state is that of R68's table, it waits for nothing
and, where it ran, is charged no more, whatever recomputation and examinations follow. -/
theorem held_settled {b w : State} {c : Chan} (ha : (w.cfg c).admin = .held) (hq : QueueLaw w) :
    let t := State.settle b (w.controllerHold c).recompute
    (t.ctl c).state = ((w.ctl c).putHeld (w.cfg c)).state ∧ Unqueued t c ∧
      ((w.ctl c).state.charged = true → Uncharged t c) := by
  intro t
  obtain ⟨v, ht, hbits⟩ := turns_controllerHold ha
  have hcfg : v.cfg c = w.cfg c := by rw [State.cfg, ht.config]; rfl
  have hfirm : Firm v c := putHeld_firm ha ht.ctl_self hcfg
  have hqueue := (hq.turns ht).unqueued hfirm.atRest.ne_queued
  have hshelved : Shelved v t c := (hbits.acts.trans (acts_settled b _)).shelved hfirm hqueue
  refine ⟨by rw [hshelved.state, ht.ctl_self], hshelved.unqueued, fun hc => hshelved.uncharged fun r x hx => ?_⟩
  rw [ht.account, State.recharged, if_pos ⟨hc, putHeld_charged _ _⟩] at hx
  exact ((mem_without _ _ _).1 hx).2

/-- Settles O27: the controller's turn is R68's table, and it stands through all that follows. -/
theorem holdTakesTheChannelOut : Obligations.HoldTakesTheChannelOut := by
  intro h seq c s q ht hl
  have hbody : holdBody h [chanByte c] (s.renewLease h) = _ := channelCommand_eq hl c _
  refine ⟨fun ha => ?_, fun ha hq => ?_⟩
  · refine exec_admin_idle (i := .hold h seq [chanByte c]) (q := q) (c := c) rfl ht (by simp only [q]; decide)
      (hbody.trans ?_)
    dsimp only
    rw [if_neg (by rwa [renewLease_cfg])]
  · have hbody' : holdBody h [chanByte c] (s.renewLease h) =
        (((s.renewLease h).takeHold c), okReply (((s.renewLease h).takeHold c).statusData c)) := by
      refine hbody.trans ?_
      dsimp only
      rw [if_pos (by rwa [renewLease_cfg])]
    obtain ⟨hctl, hcfg⟩ := setAdmin_renewed s h c .held
    obtain ⟨hstate, hqueue, hcharge⟩ := held_settled (b := s.renewLease h) (w := (s.renewLease h).setAdmin c .held)
      (c := c) (by rw [hcfg]) (renewLease_queueLaw hq h)
    have hm : Moves ((s.renewLease h).setAdmin c .held) ((s.renewLease h).takeHold c) :=
      (moves_controllerHold _ c).trans (moves_settled _ _)
    change (((s.renewLease h).takeHold c).ctl c).state = _ at hstate
    change Unqueued ((s.renewLease h).takeHold c) c at hqueue
    change _ → Uncharged ((s.renewLease h).takeHold c) c at hcharge
    generalize (s.renewLease h).takeHold c = u at hbody' hstate hqueue hcharge hm
    rw [hctl, hcfg, putHeld_state rfl] at hstate
    rw [hctl] at hcharge
    obtain ⟨ports, hexec, hkept, hgrown⟩ := exec_admin (i := .hold h seq [chanByte c]) (q := q) (code := 1) rfl ht
      (by simp only [q]; decide) hbody' hm rfl
    refine ⟨_, hexec, hstate.trans ?_, hcharge, hqueue, hkept, hgrown⟩
    cases (s.ctl c).state <;> rfl

end Sys2Proof.Machine
end

section
/-! PROOFS. UNHOLD (O28): effective demand when channels begin to contribute, and a channel that waits in the queue. -/

namespace Sys2Proof.Machine

/-! ### Effective demand, compared between two states -/

section Compare

variable {s t : State} {c k : Chan} {n m : Nat}

theorem effectiveDemand_succ (s : State) (n : Nat) (c : Chan) : s.effectiveDemand (n + 1) c = true ↔
    s.ownDemand c = true ∨ ∃ k, (s.cfg k).parent = some c ∧ s.mayContribute k = true ∧ s.effectiveDemand n k = true := by
  rw [State.effectiveDemand]
  simp only [Bool.or_eq_true, List.any_eq_true, Bool.and_eq_true, State.mem_children]

theorem effectiveDemand_of_own (h : s.ownDemand c = true) : ∀ n, s.effectiveDemand n c = true
  | 0 => h
  | n + 1 => (effectiveDemand_succ s n c).2 (.inl h)

/-- More levels looked at find no less demand. -/
theorem effectiveDemand_mono_succ : ∀ (n : Nat) (c : Chan), s.effectiveDemand n c = true →
    s.effectiveDemand (n + 1) c = true
  | 0, c, h => effectiveDemand_of_own h 1
  | n + 1, c, h => by
    rcases (effectiveDemand_succ s n c).1 h with h | ⟨k, hp, hm, hk⟩
    · exact effectiveDemand_of_own h _
    · exact (effectiveDemand_succ s (n + 1) c).2 (.inr ⟨k, hp, hm, effectiveDemand_mono_succ n k hk⟩)

theorem effectiveDemand_mono_levels (h : n ≤ m) (hc : s.effectiveDemand n c = true) : s.effectiveDemand m c = true := by
  induction h with
  | refl => exact hc
  | step _ ih => exact effectiveDemand_mono_succ _ c ih

/-- The same own demand and the same parents. -/
structure SameRoots (s t : State) : Prop where
  own : ∀ c, t.ownDemand c = s.ownDemand c
  parent : ∀ c, (t.cfg c).parent = (s.cfg c).parent

/-- Where every channel that contributed still may, no demand is lost. -/
theorem SameRoots.effective_mono (h : SameRoots s t)
    (hmay : ∀ k, s.mayContribute k = true → t.mayContribute k = true) : ∀ (n : Nat) (c : Chan),
      s.effectiveDemand n c = true → t.effectiveDemand n c = true
  | 0, c, hc => (h.own c).trans hc
  | n + 1, c, hc => by
    rcases (effectiveDemand_succ s n c).1 hc with ho | ⟨k, hp, hm, hk⟩
    · exact effectiveDemand_of_own ((h.own c).trans ho) _
    · exact (effectiveDemand_succ t n c).2 (.inr ⟨k, (h.parent k).trans hp, hmay k hm, h.effective_mono hmay n k hk⟩)

/-- Where only `c` begins to contribute, demand that is new stands above demand of `c` itself. -/
theorem SameRoots.effective_new (h : SameRoots s t)
    (hmay : ∀ k, k ≠ c → t.mayContribute k = true → s.mayContribute k = true) : ∀ (n : Nat) (k : Chan),
      t.effectiveDemand n k = true → s.effectiveDemand n k = true ∨ ∃ m ≤ n, s.effectiveDemand m c = true
  | 0, k, hk => .inl ((h.own k).symm.trans hk)
  | n + 1, k, hk => by
    rcases (effectiveDemand_succ t n k).1 hk with ho | ⟨j, hp, hm, hj⟩
    · exact .inl (effectiveDemand_of_own ((h.own k).symm.trans ho) _)
    · rcases h.effective_new hmay n j hj with hs | ⟨m, hmn, hs⟩
      · by_cases e : j = c
        · exact .inr ⟨n, Nat.le_succ n, by rwa [e] at hs⟩
        · exact .inl ((effectiveDemand_succ s n k).2 (.inr ⟨j, (h.parent j).symm.trans hp, hmay j e hm, hs⟩))
      · exact .inr ⟨m, Nat.le_succ_of_le hmn, hs⟩

/-- So the demand of `c` itself is not new. -/
theorem SameRoots.effective_self (h : SameRoots s t)
    (hmay : ∀ k, k ≠ c → t.mayContribute k = true → s.mayContribute k = true)
    (hc : t.effectiveDemand n c = true) : s.effectiveDemand n c = true := by
  rcases h.effective_new hmay n c hc with h | ⟨m, hm, h⟩
  · exact h
  · exact effectiveDemand_mono_levels hm h

end Compare

/-! ### A channel that waits -/

section Wait

variable {s t : State} {c : Chan}

/-- `c` waits in the queue with admission number `n` and has effective demand; of its controller only the demand item
has moved since `s`. -/
structure Waiting (s t : State) (c : Chan) (n : Nat) : Prop where
  ctl : t.ctl c = { s.ctl c with demand := (t.ctl c).demand }
  entry : ∃ e ∈ t.queue, e.chan = c
  number : ∀ e ∈ t.queue, e.chan = c → e.number = n
  effective : (t.dem c).effective = true

theorem Turns.keeps_entry {j : Chan} {k : Controller} (h : Turns s t j k) (hj : c ≠ j) {e : QueueEntry}
    (he : e ∈ s.queue) (hc : e.chan = c) : e ∈ t.queue := by
  rw [h.queue, State.requeued]
  split
  · split
    · exact he
    · exact (mem_insertBy _ _ _ _).2 (.inr he)
  · split
    · exact List.mem_filter.2 ⟨he, by rw [hc]; simpa using hj⟩
    · exact he

/-- Small steps pass over a channel that waits and has demand. -/
theorem Bit.waiting {u : State} {n : Nat} (h : Bit t u) (hq : (s.ctl c).state = .queued) (hw : Waiting s t c n) :
    Waiting s u c n := by
  obtain ⟨hctl, ⟨e, he, hc⟩, hnumber, heff⟩ := hw
  have hstate : (t.ctl c).state = .queued := by rw [hctl]; exact hq
  have hdem : (u.dem c).effective = true := by rw [State.dem, h.demand]; exact heff
  have hother {j : Chan} (hj : (t.ctl j).state.charged = true) : c ≠ j := by
    rintro rfl
    rw [hstate] at hj
    cases hj
  have numbered {j : Chan} (hj : c ≠ j) {x : QueueEntry} (hx : x.chan = j ∨ x ∈ t.queue) (hxc : x.chan = c) :
      x.number = n := hx.elim (fun e => absurd (hxc.symm.trans e) hj) fun hx => hnumber x hx hxc
  have turned {j : Chan} {k : Controller} (ht : Turns t u j k) (hj : c ≠ j) : Waiting s u c n :=
    ⟨by rw [ht.ctl_ne hj]; exact hctl, ⟨e, ht.keeps_entry hj he hc, hc⟩, fun _ hx => numbered hj (ht.mem_queue_of hx),
      hdem⟩
  cases h with
  | draw m => exact ⟨hctl, ⟨e, he, hc⟩, hnumber, hdem⟩
  | arrived j _ =>
    have ht := turns_demandArrival t j
    by_cases hj : c = j
    · subst hj
      have hk : (t.ctl c).arrived (t.cfg c) = { t.ctl c with demand := true } := by
        rw [Controller.arrived, if_neg (by rw [hstate]; exact fun h => nomatch h.1)]
      rw [hk] at ht
      have hqueue : (t.demandArrival c).queue = t.queue := by
        rw [ht.queue, State.requeued, if_pos hstate, if_pos hstate]
      exact ⟨by rw [ht.ctl_self, hctl], ⟨e, by rwa [hqueue], hc⟩, by rwa [hqueue], hdem⟩
    · exact turned ht hj
  | lost j hj he =>
    refine turned (turns_demandLoss hj) ?_
    rintro rfl
    rw [heff] at he
    cases he
  | released j hj _ => exact turned (turns_released hj) (hother hj)
  | reprioritized j =>
    have hrctl : (t.reprioritize j).ctl c = t.ctl c := reprioritize_ctl t j c
    refine ⟨by rw [hrctl]; exact hctl, ?_, fun x hx hxc => ?_, hdem⟩
    · rcases reprioritize_cases t j with ⟨hs, -⟩ | ⟨y, -, hyc, hs⟩ <;> rw [hs]
      · exact ⟨e, he, hc⟩
      · by_cases hj : c = j
        · exact ⟨_, (mem_insertBy _ _ _ _).2 (.inl rfl), hyc.trans hj.symm⟩
        · exact ⟨e, (mem_insertBy _ _ _ _).2 (.inr (List.mem_filter.2 ⟨he, by simpa [hc] using hj⟩)), hc⟩
    · rcases reprioritize_cases t j with ⟨hs, -⟩ | ⟨y, hy, -, hs⟩ <;> rw [hs] at hx
      · exact hnumber x hx hxc
      · rcases (mem_insertBy _ _ _ _).1 hx with rfl | hx
        · exact hnumber y hy hxc
        · exact hnumber x (List.mem_filter.1 hx).1 hxc
  | stopped cause j hj => exact turned (turns_stopOne cause hj) (hother hj)
  | shed r v _ hv =>
    have hne {x : Charge} (hx : x ∈ v) : c ≠ x.chan := hother (ChannelState.charged_of_closed (hv x hx))
    have hqueue := List.foldlRecOn v (fun t x => t.stopOne .shed x.chan) (motive := fun t : State =>
      e ∈ t.queue ∧ ∀ y ∈ t.queue, y.chan = c → y.number = n) ⟨he, hnumber⟩ fun t ht x hx =>
        ⟨mem_queue_stopOne ht.1 _ _, fun y hy hyc => (mem_queue_of_stopOne hy).elim
          (fun e => absurd (hyc.symm.trans e.1) (hne hx)) fun hy => ht.2 y hy hyc⟩
    refine ⟨?_, ⟨e, hqueue.1, hc⟩, hqueue.2, hdem⟩
    rw [stops_ctl fun x hx => (hne hx).symm]
    exact hctl

theorem Bits.waiting {u : State} {n : Nat} (h : Bits t u) (hq : (s.ctl c).state = .queued) (hw : Waiting s t c n) :
    Waiting s u c n := h.keeps (P := fun u => Waiting s u c n) (fun hb hw => hb.waiting hq hw) hw

end Wait

/-! ### The admission counter -/

theorem enterOff_admission (s : State) (c : Chan) : s.admissionCounter ≤ (s.enterOff c).admissionCounter := by
  unfold State.enterOff
  dsimp only
  split
  · exact Nat.le_succ _
  · exact Nat.le_refl _

theorem endWait_admission (s : State) (c : Chan) : s.admissionCounter ≤ (s.endWait c).admissionCounter := by
  unfold State.endWait
  split
  · exact Nat.le_succ _
  · exact enterOff_admission s c

theorem stopOne_admission (s : State) (cause : StopCause) (c : Chan) :
    s.admissionCounter ≤ (s.stopOne cause c).admissionCounter := by
  unfold State.stopOne
  dsimp only
  rw [(sameCore_reportChannel _ _ _).admission]
  split
  · exact endWait_admission (((s.uncharge c).quiet c).setCtl c _) c
  · exact Nat.le_refl _

theorem Turns.admission_le {s t : State} {c : Chan} {k : Controller} (h : Turns s t c k) :
    s.admissionCounter ≤ t.admissionCounter := by
  rw [h.admission, State.recounted]
  split <;> omega

theorem Bit.admission_le {s t : State} (h : Bit s t) : s.admissionCounter ≤ t.admissionCounter := by
  rcases h.cases_turns with h | ⟨c, rfl⟩ | ⟨c, k, ht, -⟩ | ⟨r, v, -, -, rfl⟩
  · rw [h.admission]
  · rw [reprioritize_frame]
  · exact ht.admission_le
  · exact foldl_keeps (P := fun t : State => s.admissionCounter ≤ t.admissionCounter)
      (fun t _ ht => ht.trans (stopOne_admission t _ _)) v (Nat.le_refl _)

theorem Act.admission_le {s t : State} (h : Act s t) : s.admissionCounter ≤ t.admissionCounter := by
  cases h with
  | bit hb => exact hb.admission_le
  | valued => rw [valued_admissionCounter]
  | faulted cause c hc => exact (turns_faultOne cause (ChannelState.charged_of_closed hc)).admission_le
  | granted e r _ _ => rw [(granted_grantEntry s e.chan r).admission]

/-- Admission numbers only grow. -/
theorem Acts.admission_le {s t : State} (h : Acts s t) : s.admissionCounter ≤ t.admissionCounter :=
  h.keeps (P := fun t => s.admissionCounter ≤ t.admissionCounter) (fun ha hs => hs.trans ha.admission_le)
    (Nat.le_refl _)

end Sys2Proof.Machine
end

section
/-! PROOFS. UNHOLD (O28), settled. -/

namespace Sys2Proof.Machine

section Roots

variable {s t : State} {c : Chan}

theorem Moves.ownDemand (h : Moves s t) (c : Chan) : t.ownDemand c = s.ownDemand c := by
  have hline (k : LineId) : t.line k = s.line k := by rw [State.line, h.kept.enables]; rfl
  simp only [State.ownDemand, h.cfg, h.claimOf, hline]

theorem Moves.sameRoots (h : Moves s t) : SameRoots s t :=
  ⟨h.ownDemand, fun c => by rw [h.cfg]⟩

theorem mayContribute_iff (s : State) (c : Chan) : s.mayContribute c = true ↔
    (s.cfg c).admin = .enabled ∧ (s.ctl c).state ≠ .latched := by
  simp [State.mayContribute]

/-- Own demand asks of the admin state no more than that it is not RETIRED. -/
theorem sameRoots_setAdmin {x : Admin} (hs : (s.cfg c).admin ≠ .retired) (hx : x ≠ .retired) :
    SameRoots s (s.setAdmin c x) := by
  refine ⟨fun k => ?_, fun k => ?_⟩ <;> by_cases hk : k = c
  · subst hk
    unfold State.ownDemand
    rw [setAdmin_cfg_self, if_neg hs, if_neg hx]
    rfl
  · unfold State.ownDemand
    rw [setAdmin_cfg_ne s x hk]
    rfl
  · subst hk
    rw [setAdmin_cfg_self]
  · rw [setAdmin_cfg_ne s x hk]

theorem DemandLaw.item (h : DemandLaw s) (c : Chan) : (s.ctl c).demand = s.effectiveDemand treeDepth c := by
  rw [(h c).2, (h c).1]
  rfl

theorem renewLease_demandLaw (h : DemandLaw s) (g : HostId) : DemandLaw (s.renewLease g) := by
  rw [renewLease_eq]
  exact h

theorem renewLease_isUp (s : State) (h : HostId) (r : Rail) : (s.renewLease h).isUp r = s.isUp r := by
  rw [renewLease_eq]
  rfl

theorem renewLease_admissionCounter (s : State) (h : HostId) :
    (s.renewLease h).admissionCounter = s.admissionCounter := by
  rw [renewLease_eq, State.setPort_admissionCounter]

end Roots

/-! ### A channel that enters QUEUED before the recomputation -/

section Entered

variable {b w v : State} {c : Chan} {k : Controller}

/-- A channel that a turn has taken to QUEUED gets the next admission number. -/
theorem Turns.counts (h : Turns w v c k) (hk : k.state = .queued) (hc : (w.ctl c).state ≠ .queued) :
    v.admissionCounter = w.admissionCounter + 1 := by
  rw [h.admission, State.recounted, if_pos ⟨hk, hc⟩]

/-- With no rail UP and demand that the recomputation confirms, it stays there with that number. -/
theorem Turns.waits (h : Turns w v c k) (hk : k.state = .queued) (hc : (w.ctl c).state ≠ .queued) (hq : QueueLaw w)
    (hrails : v.rails = w.rails) (ha : w.isUp .a = false) (hb : w.isUp .b = false)
    (hd : v.effectiveDemand treeDepth c = true) :
    Waiting v (State.settle b v.recompute) c w.admissionCounter := by
  have hqueue : v.queue = insertBy QueueEntry.precedes ⟨c, (w.dem c).priority, w.admissionCounter⟩ w.queue := by
    rw [h.queue, State.requeued, if_pos hk, if_neg hc]
  have hup (r : Rail) : v.recompute.isUp r = w.isUp r :=
    (isUp_of_rails (moves_recompute v).kept.rails r).trans (isUp_of_rails hrails r)
  have hstart : Waiting v v.valued c w.admissionCounter := by
    refine ⟨by rw [valued_ctl], ?_, fun e he hec => ?_, ?_⟩
    · rw [valued_queue, hqueue]
      exact ⟨_, (mem_insertBy _ _ _ _).2 (.inl rfl), rfl⟩
    · rw [valued_queue, hqueue] at he
      rcases (mem_insertBy _ _ _ _).1 he with rfl | he
      · rfl
      · exact absurd hec (hq.unqueued hc e he)
    · rw [valued_dem]
      exact hd
  rw [settle_of_rails_down (by rw [hup]; exact ha) (by rw [hup]; exact hb)]
  exact (bits_recompute v).waiting (by rw [h.ctl_self]; exact hk) hstart

end Entered

/-! ### UNHOLD -/

section Unheld

variable {b w : State} {c : Chan}

theorem putUnheld_queued {k : Controller} {f : ChannelConfig} (ho : k.state = .off) (hd : k.demand = true)
    (ha : f.admin = .enabled) : (k.putUnheld f).state = .queued := by
  simp [Controller.putUnheld, Controller.wantedBy, ho, hd, ha]

theorem unheld_stands (hq : QueueLaw w) (hs : (w.ctl c).state = .stopping ∨ (w.ctl c).state = .latched) :
    ((State.settle b (w.controllerUnhold c).recompute).ctl c).state = (w.ctl c).state := by
  have ht := turns_controllerUnhold w c
  have hsame : ((w.ctl c).putUnheld (w.cfg c)).state = (w.ctl c).state := by
    rcases hs with h | h <;> simp [Controller.putUnheld, h]
  have hfirm : Firm (w.controllerUnhold c) c := by
    unfold Firm
    rw [ht.ctl_self, hsame]
    rcases hs with h | h
    · exact .inl h
    · exact .inr (.inl h)
  have hqueue := (hq.turns ht).unqueued hfirm.atRest.ne_queued
  rw [((acts_settled b _).shelved hfirm hqueue).state, ht.ctl_self, hsame]

theorem unheld_counts (ha : (w.cfg c).admin = .enabled) (ho : (w.ctl c).state = .off)
    (hd : (w.ctl c).demand = true) :
    w.admissionCounter < (State.settle b (w.controllerUnhold c).recompute).admissionCounter := by
  have hcount := (turns_controllerUnhold w c).counts (putUnheld_queued ho hd ha) (by rw [ho]; decide)
  exact Nat.lt_of_lt_of_le (by omega) (acts_settled b (w.controllerUnhold c)).admission_le

theorem unheld_waits (ha : (w.cfg c).admin = .enabled) (ho : (w.ctl c).state = .off) (hd : (w.ctl c).demand = true)
    (hq : QueueLaw w) (hup : w.isUp .a = false) (hup' : w.isUp .b = false)
    (he : w.effectiveDemand treeDepth c = true) :
    Waiting (w.controllerUnhold c) (State.settle b (w.controllerUnhold c).recompute) c w.admissionCounter := by
  have ht := turns_controllerUnhold w c
  have hm := moves_controllerUnhold w c
  have hk := putUnheld_queued ho hd ha
  refine ht.waits hk (by rw [ho]; decide) hq hm.kept.rails hup hup' (hm.sameRoots.effective_mono (fun j hj => ?_) _ _ he)
  rw [mayContribute_iff, hm.cfg] at *
  refine ⟨hj.1, ?_⟩
  rw [ht.ctl]
  split
  · rw [hk]
    decide
  · exact hj.2

end Unheld

/-- Settles O28: the controller's turn, and a channel that waits. -/
theorem unholdQueuesAWantedChannel : Obligations.UnholdQueuesAWantedChannel := by
  intro h seq c s q ht hl
  have hbody : unholdBody h [chanByte c] (s.renewLease h) = _ := channelCommand_eq hl c _
  refine ⟨fun ha => ?_, fun ha hq => ?_⟩
  · refine exec_admin_idle (i := .unhold h seq [chanByte c]) (q := q) (c := c) rfl ht (by simp only [q]; decide)
      (hbody.trans ?_)
    dsimp only
    rw [if_neg (by rwa [renewLease_cfg])]
  · have hbody' : unholdBody h [chanByte c] (s.renewLease h) =
        (((s.renewLease h).takeUnhold c), okReply (((s.renewLease h).takeUnhold c).statusData c)) := by
      refine hbody.trans ?_
      dsimp only
      rw [if_pos (by rwa [renewLease_cfg])]
    set w := (s.renewLease h).setAdmin c .enabled with hw
    have htake : (s.renewLease h).takeUnhold c = State.settle (s.renewLease h) (w.controllerUnhold c).recompute := rfl
    obtain ⟨hctl, hcfg⟩ := setAdmin_renewed s h c .enabled
    rw [← hw] at hctl hcfg
    have hadmin : (w.cfg c).admin = .enabled := by rw [hcfg]
    have hcount : w.admissionCounter = s.admissionCounter := renewLease_admissionCounter s h
    have hqueue : QueueLaw w := renewLease_queueLaw hq h
    have hm : Moves w ((s.renewLease h).takeUnhold c) := (moves_controllerUnhold _ c).trans (moves_settled _ _)
    have hstands := unheld_stands (b := s.renewLease h) (c := c) hqueue
    have hcounts := unheld_counts (b := s.renewLease h) hadmin
    have hwaits := unheld_waits (b := s.renewLease h) (c := c) hadmin
    have hqueued := putUnheld_queued (k := s.ctl c) (f := w.cfg c)
    have hself := (turns_controllerUnhold w c).ctl_self
    rw [← htake, hctl] at hstands hcounts hwaits
    rw [hctl] at hself
    rw [hcount] at hcounts hwaits
    clear htake
    generalize (s.renewLease h).takeUnhold c = u at *
    generalize w.controllerUnhold c = v at *
    obtain ⟨ports, hexec, hkept, hgrown⟩ := exec_admin (i := .unhold h seq [chanByte c]) (q := q) (code := 0) rfl ht
      (by simp only [q]; decide) hbody' hm rfl
    refine ⟨_, hexec, hstands, hcounts, fun ho hd hup hup' hdl => ?_, hkept, hgrown⟩
    have hdemand : w.effectiveDemand treeDepth c = true := by
      have hdl' := renewLease_demandLaw hdl h
      have hne : ((s.renewLease h).cfg c).admin ≠ .retired := by rw [renewLease_cfg, ha]; decide
      refine (sameRoots_setAdmin hne (by decide)).effective_mono (fun k hk => ?_) _ _
        ((hdl'.item c).symm.trans (by rw [renewLease_ctl]; exact hd))
      by_cases hkc : k = c
      · rw [mayContribute_iff, hkc, renewLease_cfg, ha] at hk
        cases hk.1
      · rw [mayContribute_iff] at hk ⊢
        rw [setAdmin_cfg_ne _ _ hkc]
        exact hk
    have hwait := hwaits ho hd hqueue ((renewLease_isUp s h .a).trans hup) ((renewLease_isUp s h .b).trans hup') hdemand
    obtain ⟨e, he, hec⟩ := hwait.entry
    refine ⟨?_, e, he, hec, hwait.number e he hec⟩
    change (u.ctl c).state = _
    rw [hwait.ctl, hself]
    exact hqueued ho hd hadmin

end Sys2Proof.Machine
end

section
/-! PROOFS. RESTORE and CLEAR_FAULT (O30, O31). -/

namespace Sys2Proof.Machine

/-! ### LATCHED channels stay LATCHED through small steps -/

/-- Only channels in QUEUED have an entry. -/
def Entered (s : State) : Prop := ∀ e ∈ s.queue, (s.ctl e.chan).state = .queued

section Latched

variable {s t : State} {c : Chan} {k : Controller}

theorem QueueLaw.entered (h : QueueLaw s) : Entered s := fun e he => (h.1 e.chan).2 ⟨e, he, rfl⟩

theorem Entered.turns (h : Entered s) (ht : Turns s t c k) : Entered t := by
  intro e he
  rw [ht.ctl]
  by_cases hc : e.chan = c
  · rw [if_pos hc]
    rw [ht.queue, State.requeued] at he
    by_contra hk
    rw [if_neg hk] at he
    split at he
    · exact absurd hc (by simpa using (List.mem_filter.1 he).2)
    next hs => exact hs (hc ▸ h e he)
  · rw [if_neg hc]
    exact h e ((ht.mem_queue_of he).resolve_left hc)

/-- A channel in QUEUED that a stop would take back there. -/
def Rebounds (s : State) (c : Chan) : Prop :=
  (s.ctl c).state = .queued →
    (s.cfg c).dischargeTime = 0 ∧ (s.ctl c).demand = true ∧ (s.cfg c).admin = .enabled

theorem stopOne_rebounds (s : State) (cause : StopCause) (c : Chan) : Rebounds (s.stopOne cause c) c := by
  intro hq
  rw [stopOne_ctl, if_pos rfl, stopped_state] at hq
  rw [stopOne_cfg, stopOne_ctl, if_pos rfl, stopped_demand]
  split at hq
  · cases hq
  next hd =>
    split at hq
    next hw => exact ⟨not_not.1 hd, hw⟩
    · cases hq

theorem Entered.stopOne (h : Entered s) (hc : Rebounds s c) (cause : StopCause) : Entered (s.stopOne cause c) := by
  intro e he
  rcases mem_queue_of_stopOne he with ⟨hec, hq⟩ | hold
  · rw [hec]
    exact hq
  · have hq := h e hold
    rw [stopOne_ctl]
    split
    next hec =>
      rw [hec] at hq
      obtain ⟨hd, hw⟩ := hc hq
      rw [stopped_state, if_neg (not_not.2 hd), if_pos hw]
    next => exact hq

theorem Rebounds.stopOne {j : Chan} (h : Rebounds s j) (cause : StopCause) (c : Chan) :
    Rebounds (s.stopOne cause c) j := by
  by_cases hj : j = c
  · subst hj
    exact stopOne_rebounds s cause j
  · unfold Rebounds
    rw [stopOne_ctl, if_neg hj, stopOne_cfg]
    exact h

theorem Bit.entered (h : Bit s t) (hs : Entered s) : Entered t := by
  rcases h.cases_turns with h | ⟨c, rfl⟩ | ⟨c, k, ht, -⟩ | ⟨r, v, -, hv, rfl⟩
  · intro e he
    rw [h.ctl]
    exact hs e (by rwa [h.queue] at he)
  · intro e he
    rw [reprioritize_ctl]
    rcases reprioritize_cases s c with ⟨hr, -⟩ | ⟨x, hx, -, hr⟩ <;> rw [hr] at he
    · exact hs e he
    · rcases (mem_insertBy _ _ _ _).1 he with rfl | he
      · exact hs x hx
      · exact hs e (List.mem_filter.1 he).1
  · exact hs.turns ht
  · have hstart : ∀ x ∈ v, Rebounds s x.chan := fun x hx hq => by
      have hclosed := hv x hx
      rw [hq] at hclosed
      cases hclosed
    exact (List.foldlRecOn v (fun t x => t.stopOne .shed x.chan) (motive := fun t : State =>
      Entered t ∧ ∀ x ∈ v, Rebounds t x.chan) ⟨hs, hstart⟩ fun t ht x hx =>
        ⟨ht.1.stopOne (ht.2 x hx) _, fun y hy => (ht.2 y hy).stopOne _ _⟩).1

theorem Act.entered (h : Act s t) (hs : Entered s) : Entered t := by
  cases h with
  | bit hb => exact hb.entered hs
  | valued =>
    intro e he
    rw [valued_ctl]
    exact hs e (by rwa [valued_queue] at he)
  | faulted cause c hc => exact hs.turns (turns_faultOne cause (ChannelState.charged_of_closed hc))
  | granted e r _ _ =>
    have hg := granted_grantEntry s e.chan r
    intro x hx
    rw [hg.queue] at hx
    obtain ⟨hmem, hne⟩ := List.mem_filter.1 hx
    rw [hg.ctl, if_neg (by simpa using hne)]
    exact hs x hmem

/-- A grant goes to a channel in QUEUED, so no small step ends LATCHED. -/
theorem Act.latched (h : Act s t) (hs : Entered s) (hl : (s.ctl c).state = .latched) : (t.ctl c).state = .latched := by
  cases h with
  | bit hb => rw [hb.latched_ctl hl]; exact hl
  | valued => rw [valued_ctl]; exact hl
  | faulted cause j hc =>
    rw [(turns_faultOne cause (ChannelState.charged_of_closed hc)).ctl_ne]
    · exact hl
    · rintro rfl
      rw [hl] at hc
      cases hc
  | granted e r he _ =>
    rw [(granted_grantEntry s e.chan r).ctl, if_neg]
    · exact hl
    · rintro rfl
      rw [hs e he] at hl
      cases hl

/-- What stands through small steps: the roots of demand, and every LATCHED channel. -/
structure Settling (s t : State) : Prop where
  moves : Moves s t
  entered : Entered t
  latched : ∀ c, (s.ctl c).state = .latched → (t.ctl c).state = .latched

theorem Settling.act {u : State} (h : Settling s t) (ha : Act t u) : Settling s u :=
  ⟨h.moves.trans ha.moves, ha.entered h.entered, fun c hc => ha.latched h.entered (h.latched c hc)⟩

/-- No demand is new through small steps. -/
theorem Settling.effective (h : Settling s t) {n : Nat} (hc : t.effectiveDemand n c = true) :
    s.effectiveDemand n c = true := by
  have hroots : SameRoots t s := ⟨fun k => (h.moves.ownDemand k).symm, fun k => by rw [h.moves.cfg]⟩
  refine hroots.effective_mono (fun k hk => ?_) n c hc
  rw [mayContribute_iff, h.moves.cfg] at hk
  exact (mayContribute_iff s k).2 ⟨hk.1, fun hl => hk.2 (h.latched k hl)⟩

/-- A channel in OFF whose demand is absent, in value and by the formulas, rests. -/
theorem Acts.idle (h : Acts s t) (hq : QueueLaw s) (ho : (s.ctl c).state = .off) (hd : (s.dem c).effective = false)
    (he : s.effectiveDemand treeDepth c = false) : Shelved s t c := by
  refine (h.keeps (P := fun t => Shelved s t c ∧ (t.dem c).effective = false ∧ Settling s t)
    (fun {t u} ha hs => ?_) ⟨.refl (hq.unqueued (by rw [ho]; decide)), hd, .refl s, hq.entered, fun _ h => h⟩).1
  obtain ⟨hshelved, hdt, hset⟩ := hs
  have hrest : AtRest t c := .inr (.inr (.inr ⟨hshelved.state.trans ho, .inr hdt⟩))
  refine ⟨hshelved.trans (ha.shelved hrest hshelved.unqueued), ?_, hset.act ha⟩
  have hkept (e : u.demand = t.demand) : (u.dem c).effective = false := by rw [State.dem, e]; exact hdt
  cases ha with
  | bit hb => exact hkept hb.demand
  | valued =>
    rw [valued_dem]
    refine Bool.eq_false_iff.2 fun hx => ?_
    rw [hset.effective hx] at he
    cases he
  | faulted cause j hc => exact hkept (turns_faultOne cause (ChannelState.charged_of_closed hc)).demand
  | granted e r _ _ => exact hkept (granted_grantEntry t e.chan r).demand

/-- Own demand stands, and with it effective demand once it is handed on. -/
theorem Acts.demanded (h : Acts s t) (hd : (s.dem c).effective = true) (ho : s.ownDemand c = true) :
    (t.dem c).effective = true := by
  refine (h.keeps (P := fun t => (t.dem c).effective = true ∧ Moves s t) (fun {t u} ha hs => ?_) ⟨hd, .refl s⟩).1
  obtain ⟨hdt, hm⟩ := hs
  refine ⟨?_, hm.trans ha.moves⟩
  have hkept (e : u.demand = t.demand) : (u.dem c).effective = true := by rw [State.dem, e]; exact hdt
  cases ha with
  | bit hb => exact hkept hb.demand
  | valued =>
    rw [valued_dem]
    exact effectiveDemand_of_own ((hm.ownDemand c).trans ho) _
  | faulted cause j hc => exact hkept (turns_faultOne cause (ChannelState.charged_of_closed hc)).demand
  | granted e r _ _ => exact hkept (granted_grantEntry t e.chan r).demand

end Latched

end Sys2Proof.Machine
end

section
/-! PROOFS. RESTORE (O30). -/

namespace Sys2Proof.Machine

/-! ### A channel that a recomputation takes to QUEUED -/

section Arrives

variable {s t u : State} {c : Chan}

/-- An ENABLED channel in OFF or QUEUED with effective demand: in QUEUED once the demand has reached its item; its
discharge timer stands. -/
structure Arriving (s : State) (c : Chan) (d : Option Nat) : Prop where
  admin : (s.cfg c).admin = .enabled
  state : (s.ctl c).state = .off ∨ (s.ctl c).state = .queued
  queued : (s.ctl c).demand = true → (s.ctl c).state = .queued
  discharge : (s.ctl c).discharge = d
  effective : (s.dem c).effective = true

theorem Bit.arriving {d : Option Nat} (h : Bit s t) (ha : Arriving s c d) : Arriving t c d := by
  have hcfg : t.cfg c = s.cfg c := h.moves.cfg c
  have hdem : t.dem c = s.dem c := by rw [State.dem, h.demand]; rfl
  have stands (hctl : t.ctl c = s.ctl c) : Arriving t c d := by
    obtain ⟨hadmin, hstate, hqueued, hdischarge, heff⟩ := ha
    exact ⟨by rwa [hcfg], by rwa [hctl], by rwa [hctl], by rwa [hctl], by rwa [hdem]⟩
  have hother {j : Chan} (hj : (s.ctl j).state.charged = true) : c ≠ j := by
    rintro rfl
    rcases ha.state with hs | hs <;> rw [hs] at hj <;> cases hj
  cases h with
  | draw n => exact stands rfl
  | arrived j _ =>
    have ht := turns_demandArrival s j
    by_cases hj : c = j
    · subst hj
      have hk : (((s.ctl c).arrived (s.cfg c)).state) = .queued := by
        rw [Controller.arrived]
        rcases ha.state with hs | hs <;> simp [hs, ha.admin]
      refine ⟨by rw [hcfg]; exact ha.admin, .inr ?_, fun _ => ?_, ?_, by rw [hdem]; exact ha.effective⟩ <;>
        rw [ht.ctl_self]
      · exact hk
      · exact hk
      · exact ha.discharge
    · exact stands (ht.ctl_ne hj)
  | lost j hj he =>
    refine stands ((turns_demandLoss hj).ctl_ne ?_)
    rintro rfl
    rw [ha.effective] at he
    cases he
  | released j hj _ => exact stands ((turns_released hj).ctl_ne (hother hj))
  | reprioritized j => exact stands (reprioritize_ctl s j c)
  | stopped cause j hj => exact stands ((turns_stopOne cause hj).ctl_ne (hother hj))
  | shed r v _ hv => exact stands (stops_ctl fun x hx => (hother (ChannelState.charged_of_closed (hv x hx))).symm)

/-- In a forest a recomputation takes an ENABLED channel in OFF, its item absent, to QUEUED where it brings demand. -/
theorem recompute_queues (hf : ForestLaw s.config) (ha : (s.cfg c).admin = .enabled) (ho : (s.ctl c).state = .off)
    (hi : (s.ctl c).demand = false) (hd : (s.dem c).effective = false)
    (he : (s.recompute.dem c).effective = true) :
    (s.recompute.ctl c).state = .queued ∧ (s.recompute.ctl c).discharge = (s.ctl c).discharge := by
  have hitem : ItemAt s.recompute c := itemAt_recompute hf (hi.trans hd.symm)
  have hstart : Arriving s.valued c (s.ctl c).discharge := by
    refine ⟨by rwa [(moves_valued s).cfg], .inl (by rwa [valued_ctl]), fun h => ?_, by rw [valued_ctl], ?_⟩
    · rw [valued_ctl, hi] at h
      cases h
    · rwa [State.dem, ← (bits_recompute s).demand]
  have hend := (bits_recompute s).keeps (P := fun t => Arriving t c (s.ctl c).discharge) (fun hb h => hb.arriving h)
    hstart
  exact ⟨hend.queued (hitem.trans he), hend.discharge⟩

end Arrives

/-! ### RESTORE -/

section Restored

variable {b w : State} {c : Chan}

theorem restored_discharging {n : Nat} (hs : (w.ctl c).state = .retired) (hn : (w.ctl c).discharge = some n)
    (hq : QueueLaw w) :
    let t := State.settle b (w.controllerRestore c).recompute
    (t.ctl c).state = .stopping ∧ (t.ctl c).discharge = some n := by
  intro t
  have ht := turns_controllerRestore w c
  have hk : (w.ctl c).putRestored (w.cfg c) = { w.ctl c with state := .stopping } := by
    simp [Controller.putRestored, hs, hn]
  rw [hk] at ht
  have hfirm : Firm (w.controllerRestore c) c := .inl (by rw [ht.ctl_self])
  have hshelved : Shelved _ t c := (acts_settled b _).shelved hfirm ((hq.turns ht).unqueued hfirm.atRest.ne_queued)
  rw [hshelved.ctl, ht.ctl_self]
  exact ⟨rfl, hn⟩

/-- Without discharge and item the controller comes to OFF. -/
theorem restored_off (hs : (w.ctl c).state = .retired) (hn : (w.ctl c).discharge = none)
    (hi : (w.ctl c).demand = false) :
    ((w.controllerRestore c).ctl c).state = .off ∧ ((w.controllerRestore c).ctl c).demand = false := by
  rw [(turns_controllerRestore w c).ctl_self]
  simp [Controller.putRestored, Controller.rested, Controller.wantedBy, hs, hn, hi]

theorem restored_rests (hs : (w.ctl c).state = .retired) (hn : (w.ctl c).discharge = none)
    (hi : (w.ctl c).demand = false) (hd : (w.dem c).effective = false) (hch : w.children c = []) (hq : QueueLaw w)
    (he : ((State.settle b (w.controllerRestore c).recompute).dem c).effective = false) :
    ((State.settle b (w.controllerRestore c).recompute).ctl c).state = .off := by
  have ht := turns_controllerRestore w c
  have hm := moves_controllerRestore w c
  obtain ⟨ho, -⟩ := restored_off hs hn hi
  have hdem : ((w.controllerRestore c).dem c).effective = false := by rw [ht.dem]; exact hd
  have hchildren : (w.controllerRestore c).children c = [] := by rw [State.children] at *; simpa only [hm.cfg] using hch
  cases hown : (w.controllerRestore c).ownDemand c with
  | true =>
    have hrec : ((w.controllerRestore c).recompute.dem c).effective = true := by
      rw [recompute_dem]
      exact effectiveDemand_of_own hown _
    have := (acts_settle b (w.controllerRestore c).recompute).demanded hrec
      (((moves_recompute _).ownDemand c).trans hown)
    rw [this] at he
    cases he
  | false =>
    have heff : (w.controllerRestore c).effectiveDemand treeDepth c = false := by
      unfold treeDepth
      rw [State.effectiveDemand, hown, hchildren]
      rfl
    exact ((acts_settled b _).idle (hq.turns ht) ho hdem heff).state.trans ho

theorem restored_queues (ha : (w.cfg c).admin = .enabled) (hs : (w.ctl c).state = .retired)
    (hn : (w.ctl c).discharge = none) (hi : (w.ctl c).demand = false) (hd : (w.dem c).effective = false)
    (hf : ForestLaw w.config) (hup : w.isUp .a = false) (hup' : w.isUp .b = false)
    (he : ((State.settle b (w.controllerRestore c).recompute).dem c).effective = true) :
    ((State.settle b (w.controllerRestore c).recompute).ctl c).state = .queued := by
  have hm := moves_controllerRestore w c
  have hmr := hm.trans (moves_recompute _)
  obtain ⟨ho, hi'⟩ := restored_off hs hn hi
  rw [settle_of_rails_down (by rw [isUp_of_rails hmr.kept.rails]; exact hup)
    (by rw [isUp_of_rails hmr.kept.rails]; exact hup')] at he ⊢
  exact (recompute_queues (by rw [hm.kept.config]; exact hf) (by rwa [hm.cfg]) ho hi'
    (by rw [(turns_controllerRestore w c).dem]; exact hd) he).1

end Restored

theorem setAdmin_parent (s : State) (c : Chan) (x : Admin) (k : Chan) :
    ((s.setAdmin c x).cfg k).parent = (s.cfg k).parent := by
  by_cases hk : k = c
  · rw [hk, setAdmin_cfg_self]
  · rw [setAdmin_cfg_ne s x hk]

theorem setAdmin_children (s : State) (c : Chan) (x : Admin) (k : Chan) :
    (s.setAdmin c x).children k = s.children k := by
  unfold State.children
  exact List.filter_congr fun j _ => by rw [setAdmin_parent]

theorem renewLease_children (s : State) (h : HostId) (c : Chan) : (s.renewLease h).children c = s.children c := by
  unfold State.children
  exact List.filter_congr fun k _ => by rw [renewLease_cfg]

theorem renewLease_dem (s : State) (h : HostId) (c : Chan) : (s.renewLease h).dem c = s.dem c := by
  rw [renewLease_eq, State.setPort_dem]

theorem renewLease_forest {s : State} (hf : ForestLaw s.config) (h : HostId) : ForestLaw (s.renewLease h).config := by
  rw [renewLease_eq]
  exact hf

theorem forest_setAdmin {s : State} (hf : ForestLaw s.config) {c : Chan} {x : Admin} (hx : x ≠ .retired) :
    ForestLaw (s.setAdmin c x).config := forest_setCfg hf rfl fun h => absurd h hx

/-- Settles O30: the controller's turn, and what the recomputation brings to a channel in OFF. -/
theorem restoreReturnsTheChannel : Obligations.RestoreReturnsTheChannel := by
  intro h seq c s q ht hl
  have hbody : restoreBody h [chanByte c] (s.renewLease h) = _ := channelCommand_eq hl c _
  refine ⟨fun ha => ?_, fun ha hs hq hf hd hi => ?_⟩
  · refine exec_admin_idle (i := .restore h seq [chanByte c]) (q := q) (c := c) rfl ht (by simp only [q]; decide)
      (hbody.trans ?_)
    dsimp only
    rw [if_neg (by rwa [renewLease_cfg])]
  · have hbody' : restoreBody h [chanByte c] (s.renewLease h) =
        (((s.renewLease h).takeRestore c), okReply (((s.renewLease h).takeRestore c).statusData c)) := by
      refine hbody.trans ?_
      dsimp only
      rw [if_pos (by rwa [renewLease_cfg])]
    set w := (s.renewLease h).setAdmin c .enabled with hw
    have htake : (s.renewLease h).takeRestore c = State.settle (s.renewLease h) (w.controllerRestore c).recompute := rfl
    obtain ⟨hctl, hcfg⟩ := setAdmin_renewed s h c .enabled
    rw [← hw] at hctl hcfg
    have hadmin : (w.cfg c).admin = .enabled := by rw [hcfg]
    have hqueue : QueueLaw w := renewLease_queueLaw hq h
    have hforest : ForestLaw w.config := forest_setAdmin (renewLease_forest hf h) (by decide)
    have hchildren : w.children c = [] := by
      rw [hw, setAdmin_children, renewLease_children]
      exact children_eq_nil_of_retired hf ha
    have hdem : w.dem c = s.dem c := by
      rw [← renewLease_dem s h c]
      rfl
    have hup (r : Rail) : w.isUp r = s.isUp r := renewLease_isUp s h r
    have hm : Moves w ((s.renewLease h).takeRestore c) := (moves_controllerRestore _ c).trans (moves_settled _ _)
    have hdischarging {n : Nat} := restored_discharging (b := s.renewLease h) (w := w) (c := c) (n := n)
    have hrests := restored_rests (b := s.renewLease h) (w := w) (c := c)
    have hqueues := restored_queues (b := s.renewLease h) (w := w) (c := c) hadmin
    rw [← htake, hctl, hdem] at hrests hqueues
    rw [← htake, hctl] at hdischarging
    rw [hup, hup] at hqueues
    clear htake
    generalize (s.renewLease h).takeRestore c = u at *
    obtain ⟨ports, hexec, hkept, hgrown⟩ := exec_admin (i := .restore h seq [chanByte c]) (q := q) (code := 0) rfl ht
      (by simp only [q]; decide) hbody' hm rfl
    exact ⟨_, hexec, fun n hn => hdischarging hs hn hqueue, fun hn he => hrests hs hn hi hd hchildren hqueue he,
      fun hn he ha hb => hqueues hs hn hi hd hforest ha hb he, hkept, hgrown⟩

end Sys2Proof.Machine
end

section
/-! PROOFS. CLEAR_FAULT (O31). -/

namespace Sys2Proof.Machine

/-! ### The end of LATCHED -/

section Cleared

variable {b w : State} {c : Chan} (hl : (w.ctl c).state = .latched) (hq : QueueLaw w)

/-- What CLEAR_FAULT leaves of a controller that goes on to rest: count 0, discharge and last fault as they were. -/
structure ClearedTo (w t : State) (c : Chan) (x : ChannelState) : Prop where
  state : (t.ctl c).state = x
  count : (t.ctl c).retryCount = 0
  discharge : (t.ctl c).discharge = (w.ctl c).discharge
  lastFault : (t.ctl c).lastFault = (w.ctl c).lastFault

theorem unlatched_kept (k : Controller) (f : ChannelConfig) : (k.unlatched f).retryCount = 0 ∧
    (k.unlatched f).discharge = k.discharge ∧ (k.unlatched f).lastFault = k.lastFault ∧
      (k.unlatched f).demand = k.demand := by
  unfold Controller.unlatched
  split <;> exact ⟨rfl, rfl, rfl, rfl⟩

/-- R111's three ways out of LATCHED. -/
theorem unlatched_state (k : Controller) (f : ChannelConfig) : (k.unlatched f).state =
    if k.discharge.isSome then .stopping else if k.demand = true ∧ f.admin = .enabled then .queued else .off := by
  unfold Controller.unlatched Controller.rested Controller.wantedBy
  split <;> simp

include hl

theorem unlatch_ctl : (w.unlatch c).ctl c = (w.ctl c).unlatched (w.cfg c) := (turns_unlatch hl).ctl_self

theorem Shelved.clearedTo {t : State} (h : Shelved (w.unlatch c) t c) :
    ClearedTo w t c ((w.ctl c).unlatched (w.cfg c)).state := by
  obtain ⟨hcount, hdischarge, hfault, -⟩ := unlatched_kept (w.ctl c) (w.cfg c)
  refine ⟨?_, ?_, ?_, ?_⟩ <;> rw [h.ctl, unlatch_ctl hl]
  · exact hcount
  · exact hdischarge
  · exact hfault

include hq

theorem unlatch_unqueued {x : ChannelState} (hx : ((w.ctl c).unlatched (w.cfg c)).state = x) (hne : x ≠ .queued) :
    Unqueued (w.unlatch c) c :=
  (hq.turns (turns_unlatch hl)).unqueued (by rw [unlatch_ctl hl, hx]; exact hne)

theorem cleared_discharging {n : Nat} (hn : (w.ctl c).discharge = some n) :
    ClearedTo w (State.settle b (w.unlatch c).recompute) c .stopping := by
  have hstate : ((w.ctl c).unlatched (w.cfg c)).state = .stopping := by rw [unlatched_state, hn]; rfl
  have hfirm : Firm (w.unlatch c) c := .inl (by rw [unlatch_ctl hl, hstate])
  rw [← hstate]
  exact ((acts_settled b _).shelved hfirm (unlatch_unqueued hl hq hstate (by decide))).clearedTo hl

theorem cleared_held (hn : (w.ctl c).discharge = none) (ha : (w.cfg c).admin = .held) :
    ClearedTo w (State.settle b (w.unlatch c).recompute) c .off := by
  have hstate : ((w.ctl c).unlatched (w.cfg c)).state = .off := by rw [unlatched_state]; simp [hn, ha]
  have hfirm : Firm (w.unlatch c) c := by
    refine .inr (.inr (.inr ⟨by rw [unlatch_ctl hl, hstate], ?_⟩))
    rw [(moves_unlatch w c).cfg, ha]
    decide
  rw [← hstate]
  exact ((acts_settled b _).shelved hfirm (unlatch_unqueued hl hq hstate (by decide))).clearedTo hl

/-- Demand that was absent while the channel was LATCHED is absent still: only `c` begins to contribute. -/
theorem cleared_unwanted (hn : (w.ctl c).discharge = none) (hi : (w.ctl c).demand = false) (hd : DemandLaw w) :
    ClearedTo w (State.settle b (w.unlatch c).recompute) c .off := by
  have hstate : ((w.ctl c).unlatched (w.cfg c)).state = .off := by rw [unlatched_state]; simp [hn, hi]
  have hturns := turns_unlatch hl
  have hm := moves_unlatch w c
  have hdem : ((w.unlatch c).dem c).effective = false := by rw [hturns.dem, ← (hd c).2, hi]
  have heff : (w.unlatch c).effectiveDemand treeDepth c = false := by
    refine Bool.eq_false_iff.2 fun hx => ?_
    have hold := hm.sameRoots.effective_self (fun k hk hmay => ?_) hx
    · rw [← hd.item c, hi] at hold
      cases hold
    · rw [mayContribute_iff, hm.cfg, hturns.ctl_ne hk] at hmay
      exact (mayContribute_iff w k).2 hmay
  rw [← hstate]
  exact ((acts_settled b _).idle (hq.turns hturns) (by rw [unlatch_ctl hl, hstate]) hdem heff).clearedTo hl

omit hq in
theorem cleared_counts (hn : (w.ctl c).discharge = none) (ha : (w.cfg c).admin = .enabled)
    (hi : (w.ctl c).demand = true) :
    w.admissionCounter < (State.settle b (w.unlatch c).recompute).admissionCounter := by
  have hstate : ((w.ctl c).unlatched (w.cfg c)).state = .queued := by rw [unlatched_state]; simp [hn, ha, hi]
  have hcount := (turns_unlatch hl).counts hstate (by rw [hl]; decide)
  exact Nat.lt_of_lt_of_le (by omega) (acts_settled b (w.unlatch c)).admission_le

theorem cleared_waits (hn : (w.ctl c).discharge = none) (ha : (w.cfg c).admin = .enabled)
    (hi : (w.ctl c).demand = true) (hup : w.isUp .a = false) (hup' : w.isUp .b = false) (hd : DemandLaw w) :
    ClearedTo w (State.settle b (w.unlatch c).recompute) c .queued ∧
      ∃ e ∈ (State.settle b (w.unlatch c).recompute).queue, e.chan = c ∧ e.number = w.admissionCounter := by
  have hstate : ((w.ctl c).unlatched (w.cfg c)).state = .queued := by rw [unlatched_state]; simp [hn, ha, hi]
  have hturns := turns_unlatch hl
  have hm := moves_unlatch w c
  have heff : (w.unlatch c).effectiveDemand treeDepth c = true := by
    refine hm.sameRoots.effective_mono (fun k hk => ?_) _ _ ((hd.item c).symm.trans hi)
    rw [mayContribute_iff, hm.cfg] at *
    refine ⟨hk.1, ?_⟩
    rw [hturns.ctl]
    split
    · rw [hstate]
      decide
    · exact hk.2
  have hwait := hturns.waits (b := b) hstate (by rw [hl]; decide) hq hm.kept.rails hup hup' heff
  obtain ⟨hcount, hdischarge, hfault, -⟩ := unlatched_kept (w.ctl c) (w.cfg c)
  obtain ⟨e, he, hec⟩ := hwait.entry
  refine ⟨⟨?_, ?_, ?_, ?_⟩, e, he, hec, hwait.number e he hec⟩ <;> rw [hwait.ctl, unlatch_ctl hl]
  · exact hstate
  · exact hcount
  · exact hdischarge
  · exact hfault

end Cleared

/-! ### CLEAR_FAULT -/

theorem clearFaultBody_eq {s : State} {h : HostId} {l c : Chan} (hv : (s.viewEntry h l).physical = some c) :
    clearFaultBody h [chanByte l] s =
      if (s.claimOf c h).isSome || s.holdsLock h then s.clearFault c else (s, refuse .notPermitted) := by
  simp [clearFaultBody, hv]

theorem clearFault_notFaulted {s : State} {c : Chan} (hl : (s.ctl c).state ≠ .latched)
    (hw : (s.ctl c).state ≠ .retryWait) : s.clearFault c = (s, refuse .notFaulted) := by
  unfold State.clearFault
  split
  · contradiction
  · contradiction
  all_goals rfl

/-- Settles O31: permission, then the three states R111 tells apart; a LATCHED controller's turn and what follows. -/
theorem clearFaultResetsTheCount : Obligations.ClearFaultResetsTheCount := by
  intro h seq l c s q ht hv
  have hbody : clearFaultBody h [chanByte l] (s.renewLease h) =
      if (s.claimOf c h).isSome || s.holdsLock h then (s.renewLease h).clearFault c
      else (s.renewLease h, refuse .notPermitted) := by
    rw [clearFaultBody_eq (by rw [renewLease_viewEntry]; exact hv), renewLease_claimOf, renewLease_holdsLock]
  have hctl : (s.renewLease h).ctl c = s.ctl c := renewLease_ctl s h c
  refine ⟨fun hn hno => ?_, fun hmay => ?_⟩
  · refine exec_of_body_reads (i := .clearFault h seq [chanByte l]) (q := q) (r := refuse .notPermitted) rfl ht
      (by simp only [q]; decide) (hbody.trans (if_neg ?_))
    rw [hn, Bool.or_eq_true, holdsLock_iff]
    simpa using hno
  have hbody' : clearFaultBody h [chanByte l] (s.renewLease h) = (s.renewLease h).clearFault c := by
    refine hbody.trans (if_pos ?_)
    rw [Bool.or_eq_true, holdsLock_iff]
    exact hmay
  refine ⟨fun hl hw => ?_, fun hw => ?_, fun hl hq => ?_⟩
  · exact exec_of_body_reads (i := .clearFault h seq [chanByte l]) (q := q) (r := refuse .notFaulted) rfl ht
      (by simp only [q]; decide)
      (hbody'.trans (clearFault_notFaulted (by rwa [hctl]) (by rwa [hctl])))
  · refine exec_of_body_writes (i := .clearFault h seq [chanByte l]) (q := q) (r := okReply [7, 0]) rfl ht
      (by simp only [q]; decide) (hbody'.trans ?_)
    unfold State.clearFault
    rw [hctl, hw]
    dsimp only
    rw [State.ctl_setCtl, renewLease_setCtl, hw]
    rfl
  · set w := s.renewLease h with hw
    have hlw : (w.ctl c).state = .latched := by rw [hctl]; exact hl
    have hcfg : w.cfg c = s.cfg c := renewLease_cfg s h c
    have hqw : QueueLaw w := renewLease_queueLaw hq h
    have hcount : w.admissionCounter = s.admissionCounter := renewLease_admissionCounter s h
    have hup (r : Rail) : w.isUp r = s.isUp r := renewLease_isUp s h r
    have hclear : w.clearLatched c = State.settle w (w.unlatch c).recompute := clearLatched_eq w c
    have htaken : clearFaultBody h [chanByte l] w = (w.clearLatched c,
        okReply [((w.clearLatched c).ctl c).state.code, byteOf ((w.clearLatched c).ctl c).retryCount]) := by
      refine hbody'.trans ?_
      unfold State.clearFault
      rw [hlw]
    have hm : Moves w (w.clearLatched c) := (moves_unlatch w c).trans (moves_settled _ _)
    have hdischarging {n : Nat} := cleared_discharging (b := w) (n := n) hlw hqw
    have hheld := cleared_held (b := w) hlw hqw
    have hunwanted := cleared_unwanted (b := w) hlw hqw
    have hcounts := cleared_counts (b := w) hlw
    have hwaits := cleared_waits (b := w) hlw hqw
    rw [← hclear, hctl] at hdischarging hunwanted
    rw [← hclear, hctl, hcfg] at hheld hcounts hwaits
    rw [hcount] at hcounts hwaits
    rw [hup, hup] at hwaits
    clear hclear
    generalize w.clearLatched c = u at *
    obtain ⟨ports, hexec, hkept, hgrown⟩ := exec_of_body_moves (i := .clearFault h seq [chanByte l]) (q := q) (w := s)
      rfl ht (by simp only [q]; decide) rfl rfl htaken hm
    refine ⟨_, hexec, fun n hn => ?_, fun hn ha => ?_, hcounts, fun hn ha hi hupa hupb hd => ?_, fun hn hi hd => ?_,
      hkept, hgrown⟩
    · obtain ⟨h1, h2, h3, h4⟩ := hdischarging hn
      rw [hctl] at h3 h4
      exact ⟨h1, h2, h3.trans hn, h4⟩
    · obtain ⟨h1, h2, -, h4⟩ := hheld hn ha
      rw [hctl] at h4
      exact ⟨h1, h2, h4⟩
    · obtain ⟨⟨h1, h2, -, h4⟩, hentry⟩ := hwaits hn ha hi hupa hupb (renewLease_demandLaw hd h)
      rw [hctl] at h4
      exact ⟨h1, h2, h4, hentry⟩
    · obtain ⟨h1, h2, -, h4⟩ := hunwanted hn hi (renewLease_demandLaw hd h)
      rw [hctl] at h4
      exact ⟨h1, h2, h4⟩

end Sys2Proof.Machine
end

section
/-! PROOFS. RETIRE (O29). -/

namespace Sys2Proof.Machine

/-! ### One member of a list -/

theorem foldl_of_fixed {α β : Type} {f : β → α → β} {l : List α} (h : ∀ x ∈ l, ∀ b, f b x = b) (b : β) :
    l.foldl f b = b :=
  List.foldlRecOn l f (motive := fun y => y = b) rfl fun y hy x hx => by rw [h x hx, hy]

/-- A fold in which one member of the list alone does anything. -/
theorem foldl_only {α β : Type} {f : β → α → β} {l : List α} {c : α} (hn : l.Nodup) (hc : c ∈ l)
    (h : ∀ x, x ≠ c → ∀ b, f b x = b) (b : β) : l.foldl f b = f b c := by
  obtain ⟨pre, post, rfl⟩ := List.append_of_mem hc
  rw [List.nodup_append] at hn
  obtain ⟨-, hpost, hdis⟩ := hn
  rw [List.foldl_append, List.foldl_cons, foldl_of_fixed fun x hx => h x fun e => hdis x hx c (.head _) e,
    foldl_of_fixed fun x hx => h x fun e => (List.nodup_cons.1 hpost).1 (e ▸ hx)]

theorem sum_map_only {α : Type} {f : α → Nat} {l : List α} {c : α} (hn : l.Nodup) (hc : c ∈ l)
    (h : ∀ x, x ≠ c → f x = 0) : (l.map f).sum = f c := by
  rw [List.sum_eq_foldl, List.foldl_map, foldl_only hn hc fun x hx b => by rw [h x hx, Nat.add_zero], Nat.zero_add]

/-- The records of one channel, counted by their hosts. -/
theorem countClaims_of_chan (s : State) (c : Chan) : (s.countClaims fun k _ => k = c) =
    (allHosts.filter fun g => (s.claimOf c g).isSome).length := by
  unfold State.countClaims
  rw [sum_map_only allChans_nodup (mem_allChans c) fun k hk => by simp [hk]]
  simp

/-! ### The records of a claim drop on one channel -/

section Told

variable {s : State} {c : Chan} {cause : DropCause} {g : HostId}

/-- CLAIM_DROPPED to one holder, as the claim table of `s` has it (R18). -/
def State.tellHolder (s : State) (c : Chan) (cause : DropCause) (u : State) (h : HostId) : State :=
  match s.claimOf c h with
  | some x => u.reportDrop c h x.tag cause
  | none => u

/-- A dropped claim's record (R18, R170). -/
def dropRecord (s : State) (c : Chan) (g : HostId) (tag : BitVec 16) (cause : DropCause) : Notice :=
  { report := .claimDropped cause, logical := s.logicalOf g c, newState := some (s.ctl c).state, tag := tag
    time := s.deviceTime, lostAfter := false }

theorem dropTold_chan (s : State) (c : Chan) (cause : DropCause) :
    s.dropTold (fun k _ => k = c) cause = allHosts.foldl (s.tellHolder c cause) s := by
  unfold State.dropTold
  rw [foldl_only allChans_nodup (mem_allChans c) fun k hk t => foldl_of_fixed (fun h _ u => by simp [hk]) t]
  have hstep : (fun (u : State) h => match decide (c = c), s.claimOf c h with
      | true, some x => u.reportDrop c h x.tag cause
      | true, none => u
      | false, _ => u) = s.tellHolder c cause := by
    funext u h
    unfold State.tellHolder
    rw [decide_eq_true rfl]
    cases s.claimOf c h <;> rfl
  exact congrArg (fun f => allHosts.foldl f s) hstep

theorem moves_tellHolder (s : State) (c : Chan) (cause : DropCause) (u : State) (h : HostId) :
    Moves u (s.tellHolder c cause u h) := by
  unfold State.tellHolder
  split
  · exact moves_reportDrop u c h _ cause
  · exact .refl u

theorem reportDrop_noticesOf (s : State) (c : Chan) (h g : HostId) (tag : BitVec 16) (cause : DropCause) :
    (s.reportDrop c h tag cause).noticesOf g = if g = h ∧ (s.port g).session = .opened then
      appendNotice (s.noticesOf g) (dropRecord s c g tag cause) else s.noticesOf g := by
  unfold State.reportDrop
  rw [State.deliver_noticesOf]
  by_cases hg : g = h
  · subst hg
    by_cases ho : (s.port g).session = .opened <;> simp [ho, dropRecord]
  · simp [hg]

theorem tellHolder_ctl (s : State) (c : Chan) (cause : DropCause) (u : State) (h : HostId) (k : Chan) :
    (s.tellHolder c cause u h).ctl k = u.ctl k := by
  unfold State.tellHolder
  split <;> rfl

/-- An OPEN holder's record stands at the tail of its queue once it has been told; what is told afterwards goes to
others. -/
theorem dropTold_tells {x : Claim} (hx : s.claimOf c g = some x) (ho : (s.port g).session = .opened) :
    ∃ p, Moves p (s.dropTold (fun k _ => k = c) cause) ∧
      p.noticesOf g = appendNotice (s.noticesOf g) (dropRecord s c g x.tag cause) := by
  rw [dropTold_chan]
  obtain ⟨pre, post, hsplit⟩ := List.append_of_mem (mem_allHosts g)
  have hn := allHosts_nodup
  rw [hsplit, List.nodup_append] at hn
  obtain ⟨-, -, hdis⟩ := hn
  have hpre := List.foldlRecOn pre (s.tellHolder c cause) (motive := fun u : State => Moves s u ∧
    u.noticesOf g = s.noticesOf g ∧ u.ctl c = s.ctl c) ⟨.refl s, rfl, rfl⟩ fun u hu h hh => by
      obtain ⟨hm, hq, hctl⟩ := hu
      refine ⟨hm.trans (moves_tellHolder s c cause u h), ?_, (tellHolder_ctl s c cause u h c).trans hctl⟩
      unfold State.tellHolder
      split
      · rw [reportDrop_noticesOf, if_neg fun hg => hdis h hh g (.head _) hg.1.symm]
        exact hq
      · exact hq
  rw [hsplit, List.foldl_append, List.foldl_cons]
  generalize pre.foldl (s.tellHolder c cause) s = u at hpre
  obtain ⟨hm, hq, hctl⟩ := hpre
  refine ⟨_, moves_foldl _ (moves_tellHolder s c cause) post _, ?_⟩
  unfold State.tellHolder
  rw [hx]
  dsimp only
  rw [reportDrop_noticesOf, if_pos ⟨rfl, by rw [State.port, hm.kept.ports]; exact ho⟩, hq]
  unfold dropRecord
  rw [State.logicalOf_eq hm.kept.config, hctl, hm.kept.deviceTime]

end Told

/-! ### RETIRE -/

theorem putRetired_retired {k : Controller} (hs : k.state = .off ∨ k.state = .latched ∨ k.state = .retired) :
    k.putRetired.state = .retired := by
  rcases hs with h | h | h <;> simp [Controller.putRetired, h]

theorem putRetired_fields (k : Controller) : (k.state = .off ∨ k.state = .latched → k.putRetired.retryCount = 0) ∧
    k.putRetired.lastFault = k.lastFault ∧ k.putRetired.discharge = k.discharge := by
  unfold Controller.putRetired
  split
  · exact ⟨fun _ => rfl, rfl, rfl⟩
  next h => exact ⟨fun hs => absurd hs h, rfl, rfl⟩

section Retired

variable {b w : State} {c : Chan}

/-- What the event leaves: the drop's moves, the claims gone, and the controller RETIRED. -/
theorem retired_settled (hs : (w.ctl c).state = .off ∨ (w.ctl c).state = .latched ∨ (w.ctl c).state = .retired)
    (hq : QueueLaw w) :
    let t := State.settle b ((w.controllerRetire c).dropReported (fun k _ => k = c) .config)
    Moves (w.removeClaims fun k _ => k = c) t ∧ t.ctl c = { (w.ctl c).putRetired with demand := (t.ctl c).demand } ∧
      ∀ g x, w.claimOf c g = some x → (w.port g).session = .opened →
        NextRecord w t g (dropRecord (w.controllerRetire c) c g x.tag .config) := by
  intro t
  have hm := moves_controllerRetire w c
  have hturns := turns_controllerRetire w c
  have hsettle := moves_settle b ((w.controllerRetire c).dropReported (fun k _ => k = c) .config)
  have hretired := putRetired_retired hs
  refine ⟨((moves_removeClaims hm _).trans (moves_dropReported _ _ _)).trans hsettle, ?_, fun g x hx ho => ?_⟩
  · have hbeside := beside_dropped (w.controllerRetire c) (fun k _ => k = c) .config
    have hctl : (((w.controllerRetire c).dropTold (fun k _ => k = c) .config).removeClaims fun k _ => k = c).ctl c =
        (w.ctl c).putRetired := (hbeside.core.ctl c).trans hturns.ctl_self
    have hqueue := hbeside.core.queueLaw (hq.turns hturns)
    have htold : t = State.settle b _ :=
      congrArg (State.settle b) (dropReported_eq (w.controllerRetire c) (fun k _ => k = c) .config)
    rw [htold]
    generalize (((w.controllerRetire c).dropTold (fun k _ => k = c) .config).removeClaims fun k _ => k = c) = v
      at hctl hqueue
    have hfirm : Firm v c := .inr (.inr (.inl (by rw [hctl]; exact hretired)))
    rw [← hctl]
    exact ((acts_settled b v).shelved hfirm (hqueue.unqueued hfirm.atRest.ne_queued)).ctl
  · obtain ⟨p, hp, hnotices⟩ := dropTold_tells (s := w.controllerRetire c) (cause := .config)
      ((hm.claimOf c g).trans hx) (by rw [State.port, hm.kept.ports]; exact ho)
    have hsame : (w.controllerRetire c).noticesOf g = w.noticesOf g := by
      unfold State.controllerRetire
      split <;> rfl
    rw [hsame] at hnotices
    exact nextRecord_of_append (t := p.removeClaims fun k _ => k = c) rfl hnotices
      (((moves_removeClaims hp _).trans (moves_recompute _)).trans hsettle).grown

end Retired

theorem retireBody_chanByte {s : State} {h : HostId} (hl : s.lock = some h) (c : Chan) :
    retireBody h [chanByte c] (s.renewLease h) =
      if (s.ctl c).state.configurable then
        if (s.children c).isEmpty then
          if (s.cfg c).admin = .retired then (s.renewLease h, okReply [(s.ctl c).state.code, 0])
          else ((s.renewLease h).takeRetire c, okReply [(((s.renewLease h).takeRetire c).ctl c).state.code,
            byteOf (allHosts.filter fun g => (s.claimOf c g).isSome).length])
        else (s.renewLease h, refuse .hasChildren)
      else (s.renewLease h, refuse .channelActive) := by
  have hcount : ((s.renewLease h).countClaims fun k _ => k = c) =
      (allHosts.filter fun g => (s.claimOf c g).isSome).length := by
    rw [countClaims_of_chan]
    simp only [renewLease_claimOf]
  unfold retireBody
  rw [channelCommand_eq hl]
  simp only [renewLease_ctl, renewLease_children, renewLease_cfg, hcount]

/-- Settles O29: the checks in their order, and `retired_settled`. -/
theorem retireTakesTheChannelOutOfUse : Obligations.RetireTakesTheChannelOutOfUse := by
  intro h seq c s q ht hl
  have hbody := retireBody_chanByte hl c
  have answers {r : Reply} (hr : retireBody h [chanByte c] (s.renewLease h) = (s.renewLease h, r)) :
      exec (.retire h seq [chanByte c]) s = .next (s.replied q r.result.code r.data) :=
    exec_of_body_reads (q := q) rfl ht (by simp only [q]; decide) hr
  refine ⟨fun h1 h2 h3 => ?_, fun hs => ?_⟩
  · rw [configurable_eq_false h1 h2 h3] at hbody
    exact answers (hbody.trans (if_neg Bool.false_ne_true))
  rw [if_pos (configurable_eq_true hs)] at hbody
  refine ⟨fun k hk => ?_, fun hch ha => ?_, fun hch ha hq => ?_⟩
  · rw [if_neg fun he => ?_] at hbody
    · exact answers hbody
    · have hmem := (State.mem_children s c k).2 hk
      rw [List.isEmpty_iff.1 he] at hmem
      cases hmem
  all_goals
    have hempty : (s.children c).isEmpty = true :=
      List.isEmpty_iff.2 (List.eq_nil_iff_forall_not_mem.2 fun k hk => hch k ((State.mem_children s c k).1 hk))
    rw [if_pos hempty] at hbody
  · rw [if_pos ha] at hbody
    exact answers hbody
  · rw [if_neg ha] at hbody
    obtain ⟨hctl, -⟩ := setAdmin_renewed s h c .retired
    obtain ⟨hm, hself, htold⟩ := retired_settled (b := s.renewLease h) (w := (s.renewLease h).setAdmin c .retired)
      (c := c) (by rwa [hctl]) (renewLease_queueLaw hq h)
    have hretired : (s.ctl c).putRetired.state = .retired := putRetired_retired hs
    obtain ⟨hcount, hfault, hdischarge⟩ := putRetired_fields (s.ctl c)
    have hrecord (g : HostId) (tag : BitVec 16) :
        dropRecord (((s.renewLease h).setAdmin c .retired).controllerRetire c) c g tag .config =
          { report := .claimDropped .config, logical := s.logicalOf g c, newState := some .retired, tag := tag
            time := s.deviceTime, lostAfter := false } := by
      have hm := moves_controllerRetire ((s.renewLease h).setAdmin c .retired) c
      unfold dropRecord
      rw [State.logicalOf_eq hm.kept.config, hm.kept.deviceTime, (turns_controllerRetire _ c).ctl_self, hctl, hretired,
        renewLease_eq]
      rfl
    have hnotices (g : HostId) : ((s.renewLease h).setAdmin c .retired).noticesOf g = s.noticesOf g := by
      rw [renewLease_eq]
      rfl
    have hsession (g : HostId) : (((s.renewLease h).setAdmin c .retired).port g).session = (s.port g).session :=
      renewLease_port_session s h g
    have hclaim (k : Chan) (g : HostId) : ((s.renewLease h).setAdmin c .retired).claimOf k g = s.claimOf k g :=
      renewLease_claimOf s h k g
    have htake : (s.renewLease h).takeRetire c = State.settle (s.renewLease h)
        ((((s.renewLease h).setAdmin c .retired).controllerRetire c).dropReported (fun k _ => k = c) .config) := rfl
    rw [← htake] at hm hself htold
    clear htake
    generalize (s.renewLease h).takeRetire c = u at *
    have hclaims (k : Chan) (g : HostId) : u.claimOf k g = if k = c then none else s.claimOf k g := by
      rw [hm.claimOf, State.removeClaims_claimOf, hclaim]
      simp
    rw [hctl] at hself
    have hstate : (u.ctl c).state = .retired := by rw [hself]; exact hretired
    rw [hstate] at hbody
    rw [← renewLease_setAdmin, ← renewLease_removeClaims] at hm
    obtain ⟨ports, hexec, hkept, hgrown⟩ := exec_of_body_moves (i := .retire h seq [chanByte c]) (q := q)
      (w := (s.setAdmin c .retired).removeClaims fun k _ => k = c) rfl ht (by simp only [q]; decide) rfl rfl hbody hm
    refine ⟨_, hexec, hstate, fun hne => ?_, ?_, ?_, hclaims, fun g x hx ho => ?_, ?_, hgrown⟩
    · change (u.ctl c).retryCount = 0
      rw [hself]
      exact hcount (hs.imp_right fun h => h.resolve_right hne)
    · change (u.ctl c).lastFault = _
      rw [hself]
      exact hfault
    · change (u.ctl c).discharge = _
      rw [hself]
      exact hdischarge
    · have hnext := htold g x ((hclaim c g).trans hx) ((hsession g).trans ho)
      rw [hrecord] at hnext
      unfold NextRecord at hnext ⊢
      rw [hnotices] at hnext
      exact hnext
    · rw [State.removeClaims_frame] at hkept
      exact hkept.withClaims

end Sys2Proof.Machine
end

section
/-! PROOFS. SET_CHANNEL_POWER and SET_CHANNEL_POLICY (O32). -/

namespace Sys2Proof.Machine

/-! ### Operands -/

theorem feedOperand_feedCode (x : Feed) : feedOperand (feedCode x) = some x := by cases x <;> rfl

theorem policyOperand_policyCode (x : Policy) : policyOperand (policyCode x) = some x := by cases x <;> rfl

section Power

variable {cls thr flt soft blank dead : Byte} (hcls : 1 ≤ cls.toNat ∧ cls.toNat ≤ 200) (hthr : thr.toNat ≤ 250)
  (hflt : flt.toNat ≤ 15) (hsoft : 1 ≤ soft.toNat) (hdead : 1 ≤ dead.toNat ∧ dead.toNat ≤ 50)

include hcls hthr hflt hsoft hdead

/-- Operands in range: the two cross-field conditions decide (R131, R135). -/
theorem powerOperands_eq (dis : Byte) (feed : Feed) (c : Chan) (s : State) :
    powerOperands s [chanByte c, cls, thr, flt, feedCode feed, soft, blank, dis, dead] =
      if cls.toNat ≤ thr.toNat ∧ blank.toNat ≤ soft.toNat then some (c, { s.cfg c with
        classAU := cls.toNat, tripThreshold := thr.toNat, tripFilter := flt.toNat, feed := feed
        softStart := soft.toNat, blanking := blank.toNat, dischargeTime := dis.toNat, deadTime := dead.toNat })
      else none := by
  simp only [powerOperands, chanOperand_chanByte, rangeOperand_eq hcls.1 hcls.2, rangeOperand_eq (Nat.zero_le _) hflt,
    feedOperand_feedCode, rangeOperand_eq hsoft (byte_toNat_le soft), rangeOperand_eq hdead.1 hdead.2,
    Option.bind_eq_bind, Option.bind_some]
  by_cases ht : cls.toNat ≤ thr.toNat
  · by_cases hb : blank.toNat ≤ soft.toNat
    · rw [rangeOperand_eq ht hthr, rangeOperand_eq (Nat.zero_le _) hb, if_pos ⟨ht, hb⟩]
      rfl
    · rw [rangeOperand_eq ht hthr, rangeOperand_eq_none (.inr (Nat.lt_of_not_le hb)), if_neg fun h => hb h.2]
      rfl
  · rw [rangeOperand_eq_none (.inl (Nat.lt_of_not_le ht)), if_neg fun h => ht h.1]
    rfl

end Power

theorem setChannelPowerBody_eq {h : HostId} {ops : List Byte} {s : State} (hl : s.lock = some h)
    (hlen : ops.length = 9) : setChannelPowerBody h ops s =
      match powerOperands s ops with
      | none => (s, refuse .badValue)
      | some (c, f) =>
        if (s.ctl c).state.configurable then
          (State.settle s (s.setCfg c f), okReply ((State.settle s (s.setCfg c f)).statusData c))
        else (s, refuse .channelActive) := by
  rw [setChannelPowerBody, if_pos ((holdsLock_iff s h).2 hl), if_pos hlen] <;> rfl

theorem policyOperands_eq {set : Byte} (h1 : 1 ≤ set.toNat) (h15 : set.toNat ≤ 15) (policy : Policy) (line : LineId)
    (floor : Fin 8) (parent : Option Chan) (c : Chan) (s : State) :
    policyOperands s [chanByte c, policyCode policy, set, hostByte line, BitVec.ofNat 8 floor.val, chanCode parent] =
      some (c, { s.cfg c with
        policy := policy, claimants := set.extractLsb' 0 4, enableLine := line, floor := floor.val
        parent := parent }) := by
  have hset : claimantsOperand set = some (set.extractLsb' 0 4) := if_pos ⟨h1, h15⟩
  simp only [policyOperands, chanOperand_chanByte, policyOperand_policyCode, hset, fourOperand_hostByte,
    rangeOperand_retryLimit, optionalChanOperand_chanCode]
  rfl

theorem setChannelPolicyBody_eq {h : HostId} {ops : List Byte} {s : State} {c : Chan} {f : ChannelConfig}
    (hl : s.lock = some h) (hlen : ops.length = 6) (hops : policyOperands s ops = some (c, f)) :
    setChannelPolicyBody h ops s =
      if (s.ctl c).state.configurable then
        if s.parentAllowed c f.parent then (s.takePolicy c f, okReply ((s.takePolicy c f).statusData c))
        else (s, refuse .badParent)
      else (s, refuse .channelActive) := by
  rw [setChannelPolicyBody, if_pos ((holdsLock_iff s h).2 hl), if_pos hlen, hops]

/-! ### The parent check -/

section Parents

variable {s : State} {c p : Chan} {parent : Option Chan}

theorem parentAllowed_some (hne : some p ≠ (s.cfg c).parent) : s.parentAllowed c (some p) = true ↔
    p ≠ c ∧ (s.cfg p).admin ≠ .retired ∧ c ∉ s.ancestors treeDepth p ∧
      s.depth p + 1 + s.height treeDepth c ≤ maxDepth := by
  unfold State.parentAllowed
  rw [if_neg hne]
  simp [and_assoc]

theorem parentAllowed_eq_false_iff (hne : some p ≠ (s.cfg c).parent) : s.parentAllowed c (some p) = false ↔
    ¬ (p ≠ c ∧ (s.cfg p).admin ≠ .retired ∧ c ∉ s.ancestors treeDepth p ∧
      s.depth p + 1 + s.height treeDepth c ≤ maxDepth) := by
  rw [← parentAllowed_some hne, Bool.not_eq_true]

theorem not_parentAllowed_self (hne : some p ≠ (s.cfg c).parent) (h : p = c ∨ (s.cfg p).admin = .retired) :
    s.parentAllowed c (some p) = false :=
  (parentAllowed_eq_false_iff hne).2 fun ⟨hp, ha, _⟩ => h.elim hp ha

/-- A descendant of `c` is no parent for it. -/
theorem not_parentAllowed_descendant (hne : some p ≠ (s.cfg c).parent) (hf : ForestLaw s.config) {n : Nat}
    (h : s.above n p = some c) : s.parentAllowed c (some p) = false := by
  obtain ⟨depth, hd⟩ := (forestLaw_iff s).1 hf
  refine (parentAllowed_eq_false_iff hne).2 fun ⟨hp, _, hdesc, _⟩ => ?_
  cases n with
  | zero => exact hp (Option.some.inj h)
  | succ n =>
    refine hdesc ((mem_ancestors s treeDepth p c).2 ⟨n, ?_, h⟩)
    have := hd.above h
    have := hd.le_four p
    unfold treeDepth
    omega

/-- Nor is a channel so deep that a chain of more than four would come about. -/
theorem not_parentAllowed_deep (hne : some p ≠ (s.cfg c).parent) (hf : ForestLaw s.config) {n m : Nat} {k : Chan}
    (hn : s.above n p ≠ none) (hm : s.above m k = some c) (h : 4 < (n + 1) + (m + 1)) :
    s.parentAllowed c (some p) = false := by
  obtain ⟨depth, hd⟩ := (forestLaw_iff s).1 hf
  refine (parentAllowed_eq_false_iff hne).2 fun ⟨_, _, _, hdepth⟩ => ?_
  have hp := hd.lt_of_above hn
  have hk := hd.above hm
  have hfour := hd.le_four k
  have hheight := le_height (n := treeDepth) (by unfold treeDepth; omega) hm
  rw [hd.depth_eq] at hdepth
  unfold maxDepth at hdepth
  omega

theorem parentAllowed_of_fits
    (h : ∀ p, parent = some p → parent ≠ (s.cfg c).parent → (s.cfg p).admin ≠ .retired ∧ (∀ n, s.above n p ≠ some c) ∧
      ∀ n m k, s.above n p ≠ none → s.above m k = some c → (n + 1) + (m + 1) ≤ 4) :
    s.parentAllowed c parent = true := by
  by_cases hsame : parent = (s.cfg c).parent
  · exact if_pos hsame
  cases parent with
  | none =>
    unfold State.parentAllowed
    rw [if_neg hsame]
  | some p =>
    obtain ⟨ha, hdesc, hchain⟩ := h p rfl hsame
    refine (parentAllowed_some hsame).2 ⟨fun e => hdesc 0 (congrArg some e), ha, fun hm => ?_, ?_⟩
    · obtain ⟨m, -, hm⟩ := (mem_ancestors s treeDepth p c).1 hm
      exact hdesc _ hm
    · obtain ⟨k, hk⟩ := exists_above_height s treeDepth c
      have := hchain _ _ k (above_ancestors_length s treeDepth p) hk
      unfold State.depth maxDepth
      omega

end Parents

/-! ### SET_CHANNEL_POLICY's event -/

section Policy

variable {s : State} {c : Chan} {f : ChannelConfig} {b : State}

theorem droppedByPolicy_iff (k : Chan) (g : HostId) : s.droppedByPolicy c f k g = true ↔
    k = c ∧ (f.policy = .line ∨ f.policy = .pinned ∨
      ((s.cfg c).claimants.getLsbD g.val = true ∧ f.claimants.getLsbD g.val = false)) := by
  unfold State.droppedByPolicy ChannelConfig.admits
  cases f.policy <;> simp

/-- A reported drop, with the examinations that follow. -/
theorem droppedReported (b s : State) (named : Chan → HostId → Bool) (cause : DropCause) :
    Moves (s.removeClaims named) (State.settle b (s.dropReported named cause)) ∧
      (Balanced s → Formulaic (State.settle b (s.dropReported named cause))) := by
  refine ⟨(moves_dropReported s named cause).trans (moves_settle b _), fun hb => ?_⟩
  rw [dropReported_eq]
  exact formulaic_settled b (hb.same (beside_dropped s named cause).core)

theorem Balanced.setCfg (h : Balanced s) (c : Chan) (f : ChannelConfig) : Balanced (s.setCfg c f) :=
  h.of_core rfl rfl rfl rfl fun _ => rfl

end Policy

theorem renewLease_parentAllowed (s : State) (h : HostId) (c : Chan) (p : Option Chan) :
    (s.renewLease h).parentAllowed c p = s.parentAllowed c p := by
  rw [renewLease_eq]
  rfl

theorem renewLease_droppedByPolicy (s : State) (h : HostId) (c : Chan) (f : ChannelConfig) :
    (s.renewLease h).droppedByPolicy c f = s.droppedByPolicy c f := by
  funext k g
  unfold State.droppedByPolicy
  rw [renewLease_cfg]

/-! ### The two commands -/

section Commands

variable {h : HostId} {seq : Byte} {ops : List Byte} {s : State} {c : Chan} {f : ChannelConfig}

theorem configurable_cases (x : ChannelState) : x.configurable = true ↔ x = .off ∨ x = .latched ∨ x = .retired := by
  cases x <;> decide

/-- An accepted SET_CHANNEL_POWER: the record written, then the examinations. -/
theorem exec_setChannelPower {i : Instr} {q : Request} (hi : requestOf i = some q) (ht : q.isTaken s = true)
    (hcmd : q.cmd ≠ codeClose)
    (hbody : commandBody q.cmd q.port q.operands (s.renewLease q.port) =
      (State.settle (s.renewLease q.port) ((s.renewLease q.port).setCfg c f),
        okReply ((State.settle (s.renewLease q.port) ((s.renewLease q.port).setCfg c f)).statusData c)))
    (hadmin : f.admin = (s.cfg c).admin) :
    ∃ t, exec i s = .next t ∧
      KeepsTables ((s.setCfg c f).replied q 0x01 [(t.ctl c).state.code, adminCode (s.cfg c).admin]) t ∧
      QueuesGrow s t ∧ (s.queue = [] → t = { s with config := t.config, ports := t.ports }) := by
  rw [← renewLease_setCfg] at hbody
  set w := (s.setCfg c f).renewLease q.port with hw
  have hm : Moves w (State.settle (s.renewLease q.port) w) := moves_settle _ _
  have hcfg : w.cfg c = f := by rw [hw, renewLease_cfg, State.cfg_setCfg]
  have hidle (he : s.queue = []) : State.settle (s.renewLease q.port) w = w :=
    settle_of_no_queue (by rw [hw, renewLease_eq]; exact he)
  generalize State.settle (s.renewLease q.port) w = u at hbody hm hidle
  have hdata : u.statusData c = [(u.ctl c).state.code, adminCode (s.cfg c).admin] := by
    rw [State.statusData, hm.cfg, hcfg, hadmin]
  rw [hdata] at hbody
  obtain ⟨ports, hexec, hkept, hgrown⟩ := exec_of_body_moves (w := s.setCfg c f) hi ht hcmd rfl rfl hbody hm
  refine ⟨_, hexec, hkept, hgrown, fun he => ?_⟩
  rw [hidle he, hw, renewLease_eq]
  rfl

/-- An accepted SET_CHANNEL_POLICY: the record written, the claims dropped with their records, one recomputation. -/
theorem exec_setChannelPolicy {i : Instr} {q : Request} (hi : requestOf i = some q) (ht : q.isTaken s = true)
    (hcmd : q.cmd ≠ codeClose)
    (hbody : commandBody q.cmd q.port q.operands (s.renewLease q.port) =
      ((s.renewLease q.port).takePolicy c f, okReply (((s.renewLease q.port).takePolicy c f).statusData c)))
    (hadmin : f.admin = (s.cfg c).admin) :
    ∃ t, exec i s = .next t ∧
      (∀ k g, t.claimOf k g = if s.droppedByPolicy c f k g then none else s.claimOf k g) ∧
      (AllocationLaw s → ∀ k, t.dem k = t.demandNow k) ∧
      KeepsTables (({ s.setCfg c f with claims := t.claims } : State).replied q 0x01
        [(t.ctl c).state.code, adminCode (s.cfg c).admin]) t ∧
      QueuesGrow s t := by
  set named := s.droppedByPolicy c f with hnamed
  have htake : (s.renewLease q.port).takePolicy c f = State.settle (s.renewLease q.port)
      (((s.setCfg c f).renewLease q.port).dropReported named .config) := by
    rw [State.takePolicy, renewLease_droppedByPolicy, renewLease_setCfg]
  have hcfg : ((s.setCfg c f).renewLease q.port).cfg c = f := by rw [renewLease_cfg, State.cfg_setCfg]
  have hclaim (k : Chan) (g : HostId) : ((s.setCfg c f).renewLease q.port).claimOf k g = s.claimOf k g :=
    renewLease_claimOf _ _ k g
  obtain ⟨hm, hform⟩ := droppedReported (s.renewLease q.port) ((s.setCfg c f).renewLease q.port) named .config
  rw [← htake] at hm hform
  clear htake
  generalize (s.renewLease q.port).takePolicy c f = u at *
  have hdata : u.statusData c = [(u.ctl c).state.code, adminCode (s.cfg c).admin] := by
    have hcfgu : u.cfg c = f := (hm.cfg c).trans hcfg
    rw [State.statusData, hcfgu, hadmin]
  have hclaims (k : Chan) (g : HostId) : u.claimOf k g = if named k g then none else s.claimOf k g := by
    rw [hm.claimOf, State.removeClaims_claimOf, hclaim]
  rw [hdata] at hbody
  rw [← renewLease_removeClaims] at hm
  obtain ⟨ports, hexec, hkept, hgrown⟩ := exec_of_body_moves (w := (s.setCfg c f).removeClaims named) hi ht hcmd
    rfl rfl hbody hm
  rw [State.removeClaims_frame] at hkept
  exact ⟨_, hexec, hclaims, fun ha => (hform ((ha.balanced.setCfg c f).renewLease _)).withPorts ports,
    hkept.withClaims, hgrown⟩

end Commands

theorem getLsbD_low (set : Byte) (g : HostId) : (set.extractLsb' 0 4).getLsbD g.val = set.getLsbD g.val := by
  have := g.isLt
  simp [this]

/-- Settles O32: operands, state and parent checked in turn, then the record written with all that follows from it. -/
theorem channelRecordsAreWritten : Obligations.ChannelRecordsAreWritten := by
  refine ⟨?_, ?_⟩
  · intro h seq cls thr flt soft blank dis dead feed c s ops q ht hl hcls1 hcls2 hthr hflt hsoft hdead1 hdead2
    have hoperands := powerOperands_eq (blank := blank) ⟨hcls1, hcls2⟩ hthr hflt hsoft ⟨hdead1, hdead2⟩ dis feed c
      (s.renewLease h)
    have hbody := setChannelPowerBody_eq (s := s.renewLease h) (h := h) (ops := ops) (by rwa [renewLease_lock]) rfl
    rw [hoperands] at hbody
    have answers {r : Reply} (hr : setChannelPowerBody h ops (s.renewLease h) = (s.renewLease h, r)) :
        exec (.setChannelPower h seq ops) s = .next (s.replied q r.result.code r.data) :=
      exec_of_body_reads (q := q) rfl ht (by simp only [q]; decide) hr
    refine ⟨fun hbad => ?_, fun hfits hblank => ⟨fun h1 h2 h3 => ?_, fun hs => ?_⟩⟩
    · rw [if_neg (by omega)] at hbody
      exact answers hbody
    all_goals rw [if_pos ⟨hfits, hblank⟩] at hbody
    · refine answers (hbody.trans (if_neg ?_))
      rw [renewLease_ctl, configurable_eq_false h1 h2 h3]
      decide
    · have hwrite := hbody.trans (if_pos (by rw [renewLease_ctl]; exact configurable_eq_true hs))
      rw [renewLease_cfg] at hwrite
      exact exec_setChannelPower (i := .setChannelPower h seq ops) (q := q) rfl ht (by simp only [q]; decide) hwrite rfl
  · intro h seq set policy line floor parent c s ops q ht hl h1 h15
    have hops : ops = [chanByte c, policyCode policy, set, hostByte line, BitVec.ofNat 8 floor.val, chanCode parent] := by
      cases parent <;> rfl
    have hoperands := policyOperands_eq h1 h15 policy line floor parent c (s.renewLease h)
    rw [← hops, renewLease_cfg] at hoperands
    have hbody := setChannelPolicyBody_eq (h := h) (by rwa [renewLease_lock]) rfl hoperands
    rw [renewLease_ctl, renewLease_parentAllowed] at hbody
    have answers {r : Reply} (hr : setChannelPolicyBody h ops (s.renewLease h) = (s.renewLease h, r)) :
        exec (.setChannelPolicy h seq ops) s = .next (s.replied q r.result.code r.data) :=
      exec_of_body_reads (q := q) rfl ht (by simp only [q]; decide) hr
    refine ⟨fun h1 h2 h3 => ?_, fun hs => ?_⟩
    · rw [configurable_eq_false h1 h2 h3] at hbody
      exact answers (hbody.trans (if_neg Bool.false_ne_true))
    rw [if_pos (configurable_eq_true hs)] at hbody
    have refused (hno : s.parentAllowed c parent = false) :
        exec (.setChannelPolicy h seq ops) s = .next (s.replied q 0x12 []) := by
      rw [hno] at hbody
      exact answers (hbody.trans (if_neg Bool.false_ne_true))
    refine ⟨fun p hp hne hx => ?_, fun p n hp hne hf ha => ?_, fun p n m k hp hne hf hn hm hx => ?_, fun hfits => ?_⟩
    · subst hp
      exact refused (not_parentAllowed_self hne hx)
    · subst hp
      exact refused (not_parentAllowed_descendant hne hf ha)
    · subst hp
      exact refused (not_parentAllowed_deep hne hf hn hm hx)
    · have hallowed : s.parentAllowed c parent = true := parentAllowed_of_fits hfits
      rw [hallowed, if_pos rfl] at hbody
      obtain ⟨t, hexec, hclaims, hform, hkept, hgrown⟩ := exec_setChannelPolicy (i := .setChannelPolicy h seq ops)
        (q := q) rfl ht (by simp only [q]; decide) hbody rfl
      refine ⟨t, hexec, fun k g => ?_, hform, hkept, hgrown⟩
      rw [hclaims]
      simp only [droppedByPolicy_iff, getLsbD_low]

end Sys2Proof.Machine
end

section
/-! PROOFS. LOAD_COMPLETION (O5). -/

namespace Sys2Proof.Machine

/-! ### A recomputation with nothing charged -/

section Uncharged

variable {s t : State}

/-- Where no channel is charged a small step leaves the Sense Unit alone. -/
theorem Bit.sense_of_uncharged (h : Bit s t) (hu : ∀ c, (s.ctl c).state.charged = false) : t.sense = s.sense := by
  have never {c : Chan} {P : Prop} (hc : (s.ctl c).state.charged = true) : P := by
    rw [hu] at hc
    cases hc
  cases h with
  | draw n => rfl
  | arrived c _ => exact demandArrival_sense s c
  | lost c hc _ => exact demandLoss_sense hc
  | released c hc _ => exact never hc
  | reprioritized c => rw [reprioritize_frame]
  | stopped cause c hc => exact never hc
  | shed r v _ hv =>
    cases v with
    | nil => rfl
    | cons x v => exact never (ChannelState.charged_of_closed (hv x (.head _)))

theorem recompute_sense (hu : ∀ c, (s.ctl c).state.charged = false) : s.recompute.sense = s.sense := by
  have hvalued : s.valued.sense = s.sense := by
    unfold State.valued
    generalize tabulate s.demandNow = x
    rfl
  refine ((bits_recompute s).keeps (P := fun t => t.sense = s.sense ∧ ∀ c, (t.ctl c).state.charged = false)
    (fun hb ht => ⟨(hb.sense_of_uncharged ht.2).trans ht.1, fun c => hb.chargesNobody c (ht.2 c)⟩)
    ⟨hvalued, fun c => by rw [valued_ctl]; exact hu c⟩).1

end Uncharged

/-! ### The part as it starts -/

section Start

variable {s : State} {choice : Option SlotId} (hcore : LoadingCore s)

theorem loadTables_dem (hcore : LoadingCore s) (c : Chan) : (s.loadTables choice).dem c = Demand.absent :=
  hcore.demand c

theorem loadTables_uncharged (s : State) (choice : Option SlotId) (c : Chan) :
    ((s.loadTables choice).ctl c).state.charged = false := by
  rw [loadTables_ctl]
  exact Controller.atLoad_uncharged _

include hcore

/-- A controller that does not come to OFF stands as the load made it, but for its demand item. -/
theorem loaded_stands {c : Chan} (hf : Firm (s.loadTables choice) c) :
    Shelved (s.loadTables choice) (s.loadTables choice).recompute c :=
  (acts_recompute _).shelved hf
    ((allocated_loadTables hcore choice fun _ => True).queue.unqueued hf.atRest.ne_queued)

theorem loaded_retired {c : Chan} (ha : ((s.loadTables choice).cfg c).admin = .retired) :
    ((s.loadTables choice).recompute.ctl c).state = .retired ∧
      ((s.loadTables choice).recompute.ctl c).discharge = none := by
  have hctl : (s.loadTables choice).ctl c = _ := loadTables_ctl s choice c
  have hk : (Controller.atLoad ((s.loadTables choice).cfg c)).state = .retired ∧
      (Controller.atLoad ((s.loadTables choice).cfg c)).discharge = none := by simp [Controller.atLoad, ha]
  have hst := loaded_stands hcore (choice := choice) (c := c) (.inr (.inr (.inl (by rw [hctl]; exact hk.1))))
  rw [hst.ctl, hctl]
  exact hk

theorem loaded_stopping {c : Chan} (ha : ((s.loadTables choice).cfg c).admin ≠ .retired)
    (hd : ((s.loadTables choice).cfg c).dischargeTime ≠ 0) :
    ((s.loadTables choice).recompute.ctl c).state = .stopping ∧
      ((s.loadTables choice).recompute.ctl c).discharge = some ((s.loadTables choice).cfg c).dischargeTime := by
  have hctl : (s.loadTables choice).ctl c = _ := loadTables_ctl s choice c
  have hk : (Controller.atLoad ((s.loadTables choice).cfg c)).state = .stopping ∧
      (Controller.atLoad ((s.loadTables choice).cfg c)).discharge =
        some ((s.loadTables choice).cfg c).dischargeTime := by simp [Controller.atLoad, startTimer, ha, hd]
  have hst := loaded_stands hcore (choice := choice) (c := c) (.inl (by rw [hctl]; exact hk.1))
  rw [hst.ctl, hctl]
  exact hk

/-- With discharge time 0 the channel is in OFF, and on to QUEUED with demand. -/
theorem loaded_off {c : Chan} (hf : ForestLaw (s.loadTables choice).config)
    (ha : ((s.loadTables choice).cfg c).admin ≠ .retired)
    (hd : ((s.loadTables choice).cfg c).dischargeTime = 0) :
    ((s.loadTables choice).recompute.ctl c).discharge = none ∧
      ((s.loadTables choice).recompute.ctl c).state =
        if ((s.loadTables choice).cfg c).admin = .enabled ∧
          ((s.loadTables choice).recompute.dem c).effective = true then .queued else .off := by
  have hctl : (s.loadTables choice).ctl c = _ := loadTables_ctl s choice c
  have hk : (Controller.atLoad ((s.loadTables choice).cfg c)).state = .off ∧
      (Controller.atLoad ((s.loadTables choice).cfg c)).discharge = none ∧
        (Controller.atLoad ((s.loadTables choice).cfg c)).demand = false := by
    simp [Controller.atLoad, Controller.atReset, startTimer, ha, hd]
  rw [← hctl] at hk
  obtain ⟨hoff, hnone, hitem⟩ := hk
  have hdem : ((s.loadTables choice).dem c).effective = false := by rw [loadTables_dem hcore]; rfl
  have hqueue := (allocated_loadTables hcore choice fun _ => True).queue
  have rests (h : Shelved (s.loadTables choice) (s.loadTables choice).recompute c) :
      ((s.loadTables choice).recompute.ctl c).discharge = none ∧
        ((s.loadTables choice).recompute.ctl c).state = .off := by
    rw [h.ctl]
    exact ⟨hnone, hoff⟩
  by_cases hen : ((s.loadTables choice).cfg c).admin = .enabled
  · cases he : ((s.loadTables choice).recompute.dem c).effective with
    | true =>
      obtain ⟨hstate, hdischarge⟩ := recompute_queues hf hen hoff hitem hdem he
      rw [if_pos ⟨hen, rfl⟩]
      exact ⟨hdischarge.trans hnone, hstate⟩
    | false =>
      rw [if_neg fun h => nomatch h.2]
      rw [recompute_dem] at he
      exact rests ((acts_recompute _).idle hqueue hoff hdem he)
  · rw [if_neg fun h => hen h.1]
    exact rests (loaded_stands hcore (.inr (.inr (.inr ⟨hoff, hen⟩))))

theorem loaded_charges (r : Rail) : ((s.loadTables choice).recompute.account r).charges = [] := by
  refine List.eq_nil_iff_forall_not_mem.2 fun x hx => ?_
  have hmem := (bits_recompute _).shrinks r x hx
  rw [valued_account, loadTables_charges, hcore.charges] at hmem
  cases hmem

end Start

/-- While Profile Memory loads every session is CLOSED, so nothing is told. -/
theorem LoadingLaw.notices_kept {s t : State} (h : LoadingLaw s) (hl : s.isLoading = true)
    (hg : QueuesGrow s t) : t.notices = s.notices := by
  refine table_ext fun g => (hg g).elim fun _ hmore => hmore.2 ?_
  rw [(h hl).2 g]
  nofun

/-- Settles O5: the tables as loaded, and what the recomputation makes of each controller in its start state. -/
theorem loadCompletionStartsThePart : Obligations.LoadCompletionStartsThePart := by
  intro choice image generation s hstore hload hchoice hf
  have hl : s.isLoading = true := isLoading_of_loading hstore
  have hcore := hload.core hl
  have hexec : exec .loadCompletion s = .next (s.completeLoad choice) := by
    simp [exec, execLoadCompletion, hstore]
  have himage : s.loadedImage choice = image ∧ s.loadedGeneration choice = generation := by
    rcases hchoice with ⟨rfl, rfl, rfl⟩ | ⟨i, rfl, hi, hg⟩
    · exact ⟨rfl, rfl⟩
    · exact ⟨by rw [State.loadedImage, hi]; rfl, hg⟩
  obtain ⟨rfl, rfl⟩ := himage
  have hpm := completeLoad_pm s choice
  have hm := moves_recompute (s.loadTables choice)
  have hitem (c : Chan) : ItemAt (s.loadTables choice).recompute c :=
    itemAt_recompute hf ((governed_loadTables False hcore choice hf).items c)
  rw [completeLoad_settled hcore] at hexec hpm
  refine ⟨_, hexec, hpm, hm.kept.deviceTime, hm.kept.config, hm.kept.lock, hm.kept.ports,
    fun r => ⟨?_, loaded_charges hcore r⟩, fun c => ⟨formulaic_recompute _ c, hitem c⟩, fun c ha => ?_,
    fun c ha hd => ?_, fun c ha hd => ?_, hm.kept.claims, ?_, hm.kept.rails, hm.kept.xf, hm.kept.enables, ?_,
    hm.kept.pending⟩
  · rw [(slims_recompute _).limit, loadTables_limit]
    rfl
  · rw [hm.cfg] at ha
    exact loaded_retired hcore ha
  · rw [hm.cfg] at ha hd ⊢
    exact loaded_stopping hcore ha hd
  · rw [hm.cfg] at ha hd ⊢
    exact loaded_off hcore hf ha hd
  · exact hload.notices_kept hl hm.grown
  · exact recompute_sense (loadTables_uncharged s choice)

end Sys2Proof.Machine
end
